-- ==== Sys2Proof/Word.lean ====
section
/-! DEFINITION. The value types of the SI7005 protocol block (spec/00_scope.md rules R12, R13): a byte is 8 bits
unsigned, the raw sample 16 bits unsigned, a `num` is one binary64 bit pattern (rule R11, decision D5). -/

namespace Sys2Proof

/-- One byte: a register's content, a register address, a command word (R13, R60, R101). -/
abbrev Byte := BitVec 8

/-- The raw sample `raw16` (R13, R29). -/
abbrev Sample := BitVec 16

/-- A value of the arithmetic `NUM`: the 64 bits of one IEEE 754 binary64 number (R11, R171). -/
abbrev Binary64 := BitVec 64

/-- A response code: 4 bits (R107, R108). -/
abbrev RspCode := BitVec 4

end Sys2Proof
end

