-- ==== Sys2Proof/Syntax.lean ====
section
/-! DEFINITION. The closed list of operations of the block (spec/00_scope.md rule R6), one constructor per row of
spec/opcode_table.json, and the frame formats of spec/30_encoding.md rules R90, R91, R101, R111. -/

namespace Sys2Proof

/-- The temperature unit a command asks for (R29, R103). -/
inductive TempUnit where
  | celsius
  | fahrenheit
  deriving DecidableEq, Repr

/-- The source's Measurement Cycle Request (R29, R140). -/
inductive CycleKind where
  | humidity
  | temperature
  deriving DecidableEq, Repr

/-- The four formats of the opcode table (R111): a host command word, a read frame, a write frame, and the
operations that have no bit pattern. -/
inductive Format where
  | cmd8
  | xfer1
  | send2
  | internal
  deriving DecidableEq, Repr

/-- Why bytes are not an instruction. -/
inductive Reject where
  /-- A command word whose `op` field is outside 1 to 4 (R104). -/
  | reservedOp (w : Byte)
  /-- A command word with one of the bits 3:1 set (R104). -/
  | reservedBits (w : Byte)
  /-- The command word `0x21`: `RDH` has no operand (R101, R104). -/
  | reservedArg (w : Byte)
  /-- A frame that has not the length its format gives it (R106). -/
  | wrongLength
  /-- An operation of format `INTERNAL` has no bit pattern (R111). -/
  | noBitPattern
  deriving DecidableEq, Repr

/-- The operations of the block (R6, R111). -/
inductive Instr where
  /-- `RDT.C`, command word `0x10` (R222). -/
  | rdtC
  /-- `RDT.F`, command word `0x11` (R226). -/
  | rdtF
  /-- `RDH`, command word `0x20` (R223). -/
  | rdh
  /-- `HEAT.OFF`, command word `0x30` (R206). -/
  | heatOff
  /-- `HEAT.ON`, command word `0x31` (R205). -/
  | heatOn
  /-- `FAST.OFF`, command word `0x40` (R208). -/
  | fastOff
  /-- `FAST.ON`, command word `0x41` (R207). -/
  | fastOn
  /-- `RREG a`, the generic register read (R120). -/
  | rreg (addr : Byte)
  /-- `RREG.STATUS`, the read the step `M_POLL` issues (R125). -/
  | rregStatus
  /-- `RREG.DATA_HI`, the read the step `M_READ_HI` issues (R146). -/
  | rregDataHi
  /-- `RREG.DATA_LO`, the read the step `M_READ_LO` issues (R147). -/
  | rregDataLo
  /-- `RREG.ID`, the read the step `B_READ_ID` issues (R193). -/
  | rregId
  /-- `WREG a, v`, the generic register write (R122). -/
  | wreg (addr value : Byte)
  /-- `WREG.CONFIG`, the write the step `M_CONFIG` issues, with its three free bits FAST, TEMP, HEAT (R93, R143). -/
  | wregConfig (fast temp heat : Bool)
  /-- `WREG.DATA_ACK`, the write the step `M_LATCH` issues (R145). -/
  | wregDataAck
  /-- `IDENT`, the boot operation (R190). -/
  | ident
  /-- `POLL`, the ready-poll loop as a whole (R126). -/
  | poll
  /-- `MEASURE.H`, one humidity cycle (R140). -/
  | measureH
  /-- `MEASURE.T`, one temperature cycle (R140). -/
  | measureT
  /-- `CTEMP raw16, unit` (R172). -/
  | ctemp (raw16 : Sample) (unit : TempUnit)
  /-- `CHUM raw16` (R176). -/
  | chum (raw16 : Sample)
  deriving DecidableEq, Repr

/-- The format of an operation's row in the opcode table (R111). -/
def Instr.format : Instr → Format
  | .rdtC | .rdtF | .rdh | .heatOff | .heatOn | .fastOff | .fastOn => .cmd8
  | .rreg _ | .rregStatus | .rregDataHi | .rregDataLo | .rregId => .xfer1
  | .wreg _ _ | .wregConfig _ _ _ | .wregDataAck => .send2
  | .ident | .poll | .measureH | .measureT | .ctemp _ _ | .chum _ => .internal

/-- How many bytes a frame of a format has (R106). -/
def Format.length : Format → Nat
  | .cmd8 => 1
  | .xfer1 => 1
  | .send2 => 2
  | .internal => 0

/-- The mnemonics of the opcode table, which are also the lines of a program (R102, R110, R111). -/
def Instr.mnemonic : Instr → String
  | .rdtC => "RDT.C"
  | .rdtF => "RDT.F"
  | .rdh => "RDH"
  | .heatOff => "HEAT.OFF"
  | .heatOn => "HEAT.ON"
  | .fastOff => "FAST.OFF"
  | .fastOn => "FAST.ON"
  | .rreg _ => "RREG"
  | .rregStatus => "RREG.STATUS"
  | .rregDataHi => "RREG.DATA_HI"
  | .rregDataLo => "RREG.DATA_LO"
  | .rregId => "RREG.ID"
  | .wreg _ _ => "WREG"
  | .wregConfig _ _ _ => "WREG.CONFIG"
  | .wregDataAck => "WREG.DATA_ACK"
  | .ident => "IDENT"
  | .poll => "POLL"
  | .measureH => "MEASURE.H"
  | .measureT => "MEASURE.T"
  | .ctemp _ _ => "CTEMP"
  | .chum _ => "CHUM"

/-- The pseudo-commands of a program (R110). -/
inductive Pseudo where
  | rdt
  | heat (enabled : Bool)
  | fast (enabled : Bool)
  deriving DecidableEq, Repr

/-- What a pseudo-command expands to; the default unit is Celsius (R103, R110). -/
def Pseudo.expand : Pseudo → Instr
  | .rdt => .rdtC
  | .heat enabled => if enabled then .heatOn else .heatOff
  | .fast enabled => if enabled then .fastOn else .fastOff

end Sys2Proof
end

