-- ==== Sys2Proof/WellFormed.lean ====
section
/-! DEFINITION. Which operands the spec gives an operation: the two generic rows name a register of the map, in the
direction the block uses it (spec/20_memory.md rule R61, spec/40_register_protocol.md rules R120, R122). -/

namespace Sys2Proof

/-- The addresses `RREG` may name: STATUS, DATA-high, DATA-low, ID (R61, R120). -/
def readableAddress (a : Byte) : Bool := a == 0x00 || a == 0x01 || a == 0x02 || a == 0x11

/-- The addresses `WREG` may name: CONFIG and DATA (R61, R122). -/
def writableAddress (a : Byte) : Bool := a == 0x03 || a == 0x01

/-- The operands of an operation are ones the spec gives it. -/
def Instr.wellFormed : Instr → Bool
  | .rreg a => readableAddress a
  | .wreg a _ => writableAddress a
  | .rdtC | .rdtF | .rdh | .heatOff | .heatOn | .fastOff | .fastOn => true
  | .rregStatus | .rregDataHi | .rregDataLo | .rregId => true
  | .wregConfig _ _ _ | .wregDataAck => true
  | .ident | .poll | .measureH | .measureT | .ctemp _ _ | .chum _ => true

end Sys2Proof
end

