-- ==== Sys2Proof/Decode.lean ====
section
/-! DEFINITION. From bytes to operations and back (spec/30_encoding.md). A command word and a bus frame are different
formats (rules R90, R91, R101), so the decoder takes the format beside the bytes; which format applies is fixed by the
step that uses it, not read from the bytes (rule R106). -/

namespace Sys2Proof

/-- The `op` field, bits 7:4 of a command word (R101). -/
def cmdOp (w : Byte) : BitVec 4 := w.extractLsb' 4 4

/-- Bits 3:1 of a command word, which must be zero (R101). -/
def cmdZero (w : Byte) : BitVec 3 := w.extractLsb' 1 3

/-- The `arg` field, bit 0 of a command word (R101). -/
def cmdArg (w : Byte) : Bool := w.getLsbD 0

/-- A host command word (R101, R102); every other word is reserved (R104). -/
def decodeCommand (w : Byte) : Except Reject Instr :=
  if cmdZero w != 0 then .error (.reservedBits w)
  else if cmdOp w == 1 then .ok (if cmdArg w then .rdtF else .rdtC)
  else if cmdOp w == 2 then (if cmdArg w then .error (.reservedArg w) else .ok .rdh)
  else if cmdOp w == 3 then .ok (if cmdArg w then .heatOn else .heatOff)
  else if cmdOp w == 4 then .ok (if cmdArg w then .fastOn else .fastOff)
  else .error (.reservedOp w)

/-- A one-byte frame: the instance rows are tried first, the generic row matches any frame (R90, R111). -/
def decodeXfer (a : Byte) : Instr :=
  if a == 0x00 then .rregStatus
  else if a == 0x01 then .rregDataHi
  else if a == 0x02 then .rregDataLo
  else if a == 0x11 then .rregId
  else .rreg a

/-- A two-byte frame: the instance rows are tried first, the generic row matches any frame (R91, R111). The rows are
`WREG.CONFIG`, match `0x0301` and mask `0xFFCD` over byte 0 then byte 1, and `WREG.DATA_ACK`, match `0x0100`. -/
def decodeSend (a v : Byte) : Instr :=
  if a == 0x03 && v &&& 0xCD == 0x01 then .wregConfig (v.getLsbD 5) (v.getLsbD 4) (v.getLsbD 1)
  else if a == 0x01 && v == 0x00 then .wregDataAck
  else .wreg a v

/-- The decoder: total on any bytes of any format, rejecting by name. -/
def decode (f : Format) (bytes : List Byte) : Except Reject Instr :=
  match f, bytes with
  | .cmd8, [w] => decodeCommand w
  | .xfer1, [a] => .ok (decodeXfer a)
  | .send2, [a, v] => .ok (decodeSend a v)
  | .internal, [] => .error .noBitPattern
  | _, _ => .error .wrongLength

/-- The CONFIG byte with the bits FAST, TEMP, HEAT and START = 1 (R93). -/
def configFrameByte (fast temp heat : Bool) : Byte :=
  0x01 ||| (if fast then 0x20 else 0x00) ||| (if temp then 0x10 else 0x00) ||| (if heat then 0x02 else 0x00)

/-- The bytes of an operation, written from the opcode table (R102, R90, R91); none for an internal one (R111). -/
def encode : Instr → List Byte
  | .rdtC => [0x10]
  | .rdtF => [0x11]
  | .rdh => [0x20]
  | .heatOff => [0x30]
  | .heatOn => [0x31]
  | .fastOff => [0x40]
  | .fastOn => [0x41]
  | .rreg a => [a]
  | .rregStatus => [0x00]
  | .rregDataHi => [0x01]
  | .rregDataLo => [0x02]
  | .rregId => [0x11]
  | .wreg a v => [a, v]
  | .wregConfig fast temp heat => [0x03, configFrameByte fast temp heat]
  | .wregDataAck => [0x01, 0x00]
  | .ident | .poll | .measureH | .measureT | .ctemp _ _ | .chum _ => []

/-- The row a frame is named by: a generic read or write whose frame is that of an instance row has the instance row's
name, because a decoder tries the instance rows first (R111). -/
def Instr.named : Instr → Instr
  | .rreg a => decodeXfer a
  | .wreg a v => decodeSend a v
  | i => i

/-- The instruction the decoder reads from `nbits` bits numbered as the opcode table numbers them. An 8-bit word is a
command word where it is not reserved, else a one-byte frame; a 16-bit word is a two-byte frame with byte 0 in bits
15:8; no other width has a bit pattern. DESIGN CHOICE: log entry 14. -/
def decodeTableWord (nbits w : Nat) : Option Instr :=
  if nbits == 8 then
    match decode .cmd8 [BitVec.ofNat 8 w] with
    | .ok i => some i
    | .error _ => (decode .xfer1 [BitVec.ofNat 8 w]).toOption
  else if nbits == 16 then (decode .send2 [BitVec.ofNat 8 (w / 256), BitVec.ofNat 8 w]).toOption
  else none

end Sys2Proof
end

