-- ==== Sys2Proof/Config.lean ====
section
/-! DEFINITION. What an implementation of the block fixes (spec/00_scope.md rule R11) and the free values of the
environment (spec/20_memory.md rule R75). Every open value is an opaque constant: no proof can see what it is. -/

namespace Sys2Proof

/-- The answer of the Bus Transport to `transfer([a])` (R73): an error, success without a byte, or one byte. -/
inductive XferAnswer where
  | err
  | noData
  | data (b : Byte)
  deriving DecidableEq, Repr, Inhabited

/-- The answer of the Bus Transport to `send([a, v])` (R73). -/
inductive SendAnswer where
  | err
  | ack
  deriving DecidableEq, Repr, Inhabited

/-- The four operations of `NUM` (R14, R171); an argument of the free NaN bits below. -/
inductive NumOp where
  | add
  | sub
  | mul
  | div
  deriving DecidableEq, Repr

/-- The 7-bit bus address of the sensor chip, fixed (R11, R74, R92). -/
def Config.deviceAddress : BitVec 7 := 0x40

/-- `WAKE_UP_TIME`: 15 time units, fixed (R11, R124). -/
def Config.wakeUpTime : Nat := 15

/-- `TIME_UNIT`: the length of one time unit, documented as milliseconds. No rule reads it (R11, D18): log entry 20. -/
opaque Config.timeUnit : Nat

/-- `POLL_LIMIT` less one. OPEN in the spec (R11, D7): log entry 5. -/
opaque Config.pollLimitLessOne : Nat

/-- `POLL_LIMIT`, a natural number of at least 1 that the integrator chooses (R11, R298). -/
def Config.pollLimit : Nat := Config.pollLimitLessOne + 1

/-- `BUS_INDEX`: which bus the block is wired to. OPEN; no rule reads it (R11, D28): log entry 20. -/
opaque Config.busIndex : Nat

/-- `CS_PIN`: which pin is the chip-select line. OPEN; no rule reads it (R11, D28): log entry 20. -/
opaque Config.csPin : Nat

/-- The environment's free answer to the n-th read since reset (R75, D30): log entry 1. -/
opaque Config.freeXferAnswer : Nat → XferAnswer

/-- The environment's free answer to the n-th write since reset (R75, D30): log entry 1. -/
opaque Config.freeSendAnswer : Nat → SendAnswer

/-- The sign of a NaN result, which IEEE 754 leaves open: log entry 7. -/
opaque Config.freeNaNSign : NumOp → Binary64 → Binary64 → Bool

/-- The payload of a NaN result, which IEEE 754 leaves open: log entry 7. -/
opaque Config.freeNaNPayload : NumOp → Binary64 → Binary64 → BitVec 51

end Sys2Proof
end

