-- ==== Sys2Proof/Machine/Float64.lean ====
section
/-! DEFINITION. The arithmetic `NUM` (spec/42_compensation.md rule R171): IEEE 754 binary64, round to nearest, ties to
even, one rounding per operation. Every finite binary64 number is a whole number of units of 2^-1074, so each operation
takes its operands to integers, computes exactly, and rounds once at the end. -/

namespace Sys2Proof.Machine.F64

/-- How many units of 2^-1074 make 1. -/
def one : Nat := 2 ^ 1074

/-- The sign bit. -/
def sign (x : Binary64) : Bool := x.msb

/-- The biased exponent field, 11 bits. -/
def expField (x : Binary64) : Nat := x.toNat / 2 ^ 52 % 2 ^ 11

/-- The fraction field, 52 bits. -/
def fraction (x : Binary64) : Nat := x.toNat % 2 ^ 52

/-- The number is a NaN. -/
def isNaN (x : Binary64) : Bool := expField x == 2047 && fraction x != 0

/-- The number is an infinity. -/
def isInf (x : Binary64) : Bool := expField x == 2047 && fraction x == 0

/-- The number is finite. -/
def isFinite (x : Binary64) : Bool := expField x != 2047

/-- The magnitude of a finite number, in units of 2^-1074. -/
def magnitude (x : Binary64) : Nat :=
  if expField x = 0 then fraction x else (2 ^ 52 + fraction x) * 2 ^ (expField x - 1)

/-- The signed value of a finite number, in units of 2^-1074. -/
def units (x : Binary64) : Int := if sign x then -(magnitude x : Int) else magnitude x

/-- The exact value of a finite number. -/
def toRat (x : Binary64) : Rat := (units x : Rat) / (one : Rat)

/-- The quotient rounded to the nearest integer, ties to even. -/
def roundDiv (n d : Nat) : Nat :=
  if 2 * (n % d) < d then n / d
  else if d < 2 * (n % d) then n / d + 1
  else n / d + n / d % 2

/-- How many low bits of the integer part of n / d do not fit in 53 bits. -/
def excess (n d : Nat) : Nat := Nat.log2 (n / d) - 52

/-- The bits, less the sign, of the binary64 number nearest to n / d units; past the greatest finite one, infinity. -/
def roundBits (n d : Nat) : Nat :=
  min (excess n d * 2 ^ 52 + roundDiv n (d * 2 ^ excess n d)) (2047 * 2 ^ 52)

/-- The binary64 number with the given sign nearest to n / d units. -/
def pack (negative : Bool) (n d : Nat) : Binary64 :=
  BitVec.ofNat 64 ((if negative then 2 ^ 63 else 0) + roundBits n d)

/-- A zero with the given sign. -/
def zero (negative : Bool) : Binary64 := if negative then 0x8000000000000000 else 0x0000000000000000

/-- An infinity with the given sign. -/
def inf (negative : Bool) : Binary64 := if negative then 0xFFF0000000000000 else 0x7FF0000000000000

/-- A quiet NaN whose sign and payload are free: log entry 7. -/
def nan (op : NumOp) (a b : Binary64) : Binary64 :=
  (if Config.freeNaNSign op a b then 0xFFF8000000000000 else 0x7FF8000000000000)
    ||| (Config.freeNaNPayload op a b).zeroExtend 64

/-- The number with its sign bit flipped. -/
def neg (x : Binary64) : Binary64 := x ^^^ 0x8000000000000000

/-- The sum of two numbers that are no NaN; `op` only names the caller for the free NaN. An exact zero sum is +0
unless both operands are negative zeros. -/
def sum (op : NumOp) (a b : Binary64) : Binary64 :=
  if isNaN a || isNaN b then nan op a b
  else if isInf a then (if isInf b && sign a != sign b then nan op a b else a)
  else if isInf b then b
  else
    let v := units a + units b
    if v = 0 then zero (sign a && sign b) else pack (decide (v < 0)) v.natAbs 1

/-- `a + b` (R14, R171). -/
def add (a b : Binary64) : Binary64 := sum .add a b

/-- `a - b` (R14, R171). -/
def sub (a b : Binary64) : Binary64 := if isNaN a || isNaN b then nan .sub a b else sum .sub a (neg b)

/-- `a * b` (R14, R171). -/
def mul (a b : Binary64) : Binary64 :=
  if isNaN a || isNaN b then nan .mul a b
  else if isInf a || isInf b then
    (if (isFinite a && magnitude a == 0) || (isFinite b && magnitude b == 0) then nan .mul a b
     else inf (sign a != sign b))
  else pack (sign a != sign b) (magnitude a * magnitude b) one

/-- `a / b` (R14, R171). -/
def div (a b : Binary64) : Binary64 :=
  if isNaN a || isNaN b then nan .div a b
  else if isInf a then (if isInf b then nan .div a b else inf (sign a != sign b))
  else if isInf b then zero (sign a != sign b)
  else if magnitude b = 0 then (if magnitude a = 0 then nan .div a b else inf (sign a != sign b))
  else pack (sign a != sign b) (magnitude a * one) (magnitude b)

/-- `toNum n`: the conversion of an unsigned integer, exact below 2^53 (R14). -/
def toNum (n : Nat) : Binary64 := pack false (n * one) 1

/-- The binary64 number nearest to a printed decimal, given as a quotient of integers (R171). -/
def decimal (negative : Bool) (n d : Nat) : Binary64 := pack negative (n * one) d

end Sys2Proof.Machine.F64
end

