-- ==== Sys2Proof/Machine/State.lean ====
section
/-! DEFINITION. The state of the block (spec/10_state.md), plain data, and its value at the release of reset (rule
R37). Three groups of fields: the block's own state; the parameter `POLL_LIMIT` (spec/00_scope.md rule R11), which no
step changes; and what the environment and the host still have to offer, which is the model's own (log entries 1, 2). -/

namespace Sys2Proof.Machine

/-- The values of the sequencer register, the block's program counter (R23, R24). -/
inductive Phase where
  | bSelect
  | bWait
  | bReadId
  | bRelease
  | dead
  | idle
  | mSelect
  | mWait
  | mConfig
  | mPoll
  | mLatch
  | mReadHi
  | mReadLo
  | mRelease
  | mCompute
  | mAbort
  deriving DecidableEq, Repr

/-- The three-valued status register `ident` (R22). -/
inductive IdentStatus where
  | pending
  | ready
  | failed
  deriving DecidableEq, Repr

/-- The register `pin_mode` (R26). -/
inductive PinMode where
  | unset
  | output
  deriving DecidableEq, Repr

/-- The four errors of the block (R240, R245). -/
inductive ErrCode where
  | busError
  | timeoutError
  | unrecognizedDeviceError
  | staleCompensationError
  deriving DecidableEq, Repr

/-- An error with its info byte (R25, R29). -/
structure ErrInfo where
  code : ErrCode
  info : Byte
  deriving DecidableEq, Repr

/-- What the identity event says (R109, R194); `failed` carries `boot_err` as the step `B_RELEASE` reads it. -/
inductive IdentSignal where
  | ready
  | failed (bootErr : Option ErrInfo)
  deriving DecidableEq, Repr

/-- The events the block exchanges with its collaborators and with the host (R15). -/
inductive Event where
  | cmd (w : Byte)
  | rsp (code : RspCode) (value : Binary64) (info : Byte)
  | mode (m : PinMode)
  | pin (level : BitVec 1)
  | wait (units : Nat)
  | xfer (addr : Byte) (answer : XferAnswer)
  | send (addr value : Byte) (answer : SendAnswer)
  | ident (signal : IdentSignal)
  deriving DecidableEq, Repr

/-- One request to the Bus Transport: the device address, a side-band argument, and the outgoing bytes (R92). -/
structure BusRequest where
  device : BitVec 7
  bytesOut : List Byte
  deriving DecidableEq, Repr

/-- Where an error can be raised, which decides what raising it does (R244, R249, R193, R195). -/
inductive RaiseContext where
  | boot
  | dispatch
  | cycle
  | dead
  deriving DecidableEq, Repr

/-- The state of the block (R20). -/
structure State where
  /-- The control register `config_bits` (R21). -/
  configBits : Byte
  /-- `last_temperature`, in degrees Celsius; `none` until a temperature command has succeeded (R27). -/
  lastTemperature : Option Binary64
  /-- The status register `ident` (R22). -/
  ident : IdentStatus
  /-- Why the identity check failed (R25). -/
  bootErr : Option ErrInfo
  /-- The sequencer register (R23). -/
  phase : Phase
  /-- The chip-select level last written: 0 = asserted, 1 = de-asserted (R26). -/
  cs : BitVec 1
  /-- Whether `set_pin_mode(output)` has been called since reset (R26). -/
  pinMode : PinMode
  /-- The value a measurement command responds with (R28). -/
  result : Binary64
  /-- The command word in progress (R29). -/
  cmd : Byte
  /-- The kind of the measurement cycle (R29). -/
  cycle : CycleKind
  /-- The requested temperature unit (R29). -/
  unit : TempUnit
  /-- STATUS reads made in the current ready-poll loop (R29, R261). -/
  pollCnt : Nat
  /-- The last byte read from STATUS (R29). -/
  statusByte : Byte
  /-- The byte read from DATA-high (R29). -/
  hi : Byte
  /-- The byte read from DATA-low (R29). -/
  lo : Byte
  /-- The raw sample (R29). -/
  raw16 : Sample
  /-- The byte read from ID (R29). -/
  idRaw : Byte
  /-- The error of the cycle being aborted (R29). -/
  err : ErrInfo
  /-- The events since reset, oldest first: ghost state (R35). -/
  trace : List Event
  /-- The parameter `POLL_LIMIT`; no step changes it (R11). -/
  pollLimit : Nat
  /-- MODEL'S OWN: the command words the host still offers, in the order they are taken (R300): log entry 2. -/
  port : List Byte
  /-- MODEL'S OWN: the environment's next answers to reads; after the last one the answer is free: log entry 1. -/
  xferAnswers : List XferAnswer
  /-- MODEL'S OWN: the environment's next answers to writes; after the last one the answer is free: log entry 1. -/
  sendAnswers : List SendAnswer
  /-- MODEL'S OWN: reads answered so far, the argument of the free answers to reads: log entry 1. -/
  readCount : Nat
  /-- MODEL'S OWN: writes answered so far, the argument of the free answers to writes: log entry 1. -/
  writeCount : Nat
  deriving DecidableEq, Repr

/-- Why the machine stops with a fault. -/
inductive Fault where
  /-- Raised by every step and every instruction in the phase `DEAD`: the block has no step there and accepts,
  issues and changes nothing until the next reset (R195, R259). Safe: the model stops where the block stands still. -/
  | stuckDead
  deriving DecidableEq, Repr

/-- Why the model gives a step no meaning. -/
inductive Refusal where
  /-- An instruction that has no meaning yet; raised by no arm of this model. Safe. -/
  | notModelled (mnemonic : String)
  /-- Raised by the `IDLE` step when the word at the command port is reserved; a model gives it no meaning (R104,
  R301, D17). Safe: a claim says nothing of a run that contains one. -/
  | reservedCommand (w : Byte)
  deriving DecidableEq, Repr

/-- The state at the release of reset, for a given `POLL_LIMIT` and given offers of host and environment (R37, R281).
The temporaries, whose reset values the spec leaves unspecified, are zero or the first name of their type: log entry 4. -/
def State.resetWith (limit : Nat) (port : List Byte) (xfers : List XferAnswer) (sends : List SendAnswer) : State where
  configBits := 0x00
  lastTemperature := none
  ident := .pending
  bootErr := none
  phase := .bSelect
  cs := 1
  pinMode := .unset
  result := 0
  cmd := 0x00
  cycle := .humidity
  unit := .celsius
  pollCnt := 0
  statusByte := 0x00
  hi := 0x00
  lo := 0x00
  raw16 := 0x0000
  idRaw := 0x00
  err := ⟨.busError, 0x00⟩
  trace := []
  pollLimit := limit
  port := port
  xferAnswers := xfers
  sendAnswers := sends
  readCount := 0
  writeCount := 0

/-- The machine right after reset: no command offered, every answer of the environment free, `POLL_LIMIT` the
integrator's free choice (R37; log entries 1, 2, 5). -/
def State.reset : State := State.resetWith Config.pollLimit [] [] []

end Sys2Proof.Machine
end

