-- ==== Sys2Proof/Machine/Operands.lean ====
section
/-! DEFINITION. The operands of the block's operations: the register addresses and constants of
spec/20_memory.md rule R61 and spec/00_scope.md rule R18, the CONFIG byte and the raw sample
(spec/30_encoding.md rules R93 to R100). Every address is a constant of the step that issues it
(spec/40_register_protocol.md rule R130). -/

namespace Sys2Proof.Machine

/-- `REG_STATUS` (R61, R63). -/
def regStatus : Byte := 0x00

/-- `REG_DATA`, the same address as `REG_DATA_HI` (R61, R62). -/
def regData : Byte := 0x01

/-- `REG_DATA_HI` (R61, R65). -/
def regDataHi : Byte := 0x01

/-- `REG_DATA_LO` (R61, R65). -/
def regDataLo : Byte := 0x02

/-- `REG_CONFIG` (R61, R64). -/
def regConfig : Byte := 0x03

/-- `REG_ID` (R61, R66). -/
def regId : Byte := 0x11

/-- `CONFIG_START` (R18, R94). -/
def configStart : Byte := 0x01

/-- `CONFIG_HEAT` (R18, R94). -/
def configHeat : Byte := 0x02

/-- `CONFIG_FAST` (R18, R94). -/
def configFast : Byte := 0x20

/-- The bits of `config_bits` that are hardwired 0 (R21, R38). -/
def configHardwired : Byte := 0xDD

/-- The mode bits of a cycle: `MODE_TEMPERATURE` or `MODE_HUMIDITY` (R18, R94). -/
def modeBits : CycleKind → Byte
  | .temperature => 0x10
  | .humidity => 0x00

/-- The CONFIG byte the block writes: `START | mode_bits | stored_config_bits` (R94). -/
def configByte (c : CycleKind) (stored : Byte) : Byte := configStart ||| modeBits c ||| stored

/-- The DATA acknowledge byte (R98). -/
def dataAck : Byte := 0x00

/-- `raw16 = zext_16(lo) | (zext_16(hi) << 8)` (R99). -/
def assembleSample (hi lo : Byte) : Sample := lo.zeroExtend 16 ||| (hi.zeroExtend 16 <<< 8)

/-- The temperature field, `raw16 >> 2`, 14 bits (R100). -/
def temperatureField (raw16 : Sample) : Nat := (raw16 >>> 2).toNat

/-- The humidity field, `raw16 >> 4`, 12 bits (R100). -/
def humidityField (raw16 : Sample) : Nat := (raw16 >>> 4).toNat

/-- `ID_SAMPLE` and `ID_SI7005` (R18, R97). -/
def idSample : Byte := 0xF0

/-- The value the masked ID byte must have (R18, R97). -/
def idSi7005 : Byte := 0x50

/-- The command words (R102). -/
def wordRdtC : Byte := 0x10

/-- The command word of `RDT.F` (R102). -/
def wordRdtF : Byte := 0x11

/-- The command word of `RDH` (R102). -/
def wordRdh : Byte := 0x20

/-- The command word of `HEAT.OFF` (R102). -/
def wordHeatOff : Byte := 0x30

/-- The command word of `HEAT.ON` (R102). -/
def wordHeatOn : Byte := 0x31

/-- The command word of `FAST.OFF` (R102). -/
def wordFastOff : Byte := 0x40

/-- The command word of `FAST.ON` (R102). -/
def wordFastOn : Byte := 0x41

/-- The response code of a command that completes (R107). -/
def codeOk : RspCode := 0

/-- The response code of an error (R107, R240). -/
def ErrCode.code : ErrCode → RspCode
  | .busError => 1
  | .timeoutError => 2
  | .unrecognizedDeviceError => 3
  | .staleCompensationError => 4

/-- The value field of a response that carries none: +0.0 (R108, D31). -/
def noValue : Binary64 := 0

/-- The info byte of an error or a response that carries none (R108, D31). -/
def noInfo : Byte := 0x00

/-- The request a bus event put to the Bus Transport; every one carries the device address (R74, R90, R91, R92). -/
def Event.request : Event → Option BusRequest
  | .xfer a _ => some ⟨Config.deviceAddress, [a]⟩
  | .send a v _ => some ⟨Config.deviceAddress, [a, v]⟩
  | .cmd _ | .rsp _ _ _ | .mode _ | .pin _ | .wait _ | .ident _ => none

end Sys2Proof.Machine
end

