-- ==== Sys2Proof/Machine/Flags.lean ====
section
/-! DEFINITION. The block has no condition codes; these are all the conditions its sequencer branches on and the status
predicates a host can observe (spec/10_state.md rule R31). -/

namespace Sys2Proof.Machine

/-- STATUS bit 0, `NOT_READY`: 1 = the conversion is not finished; no other bit is decoded (R63, R96). -/
def notReady (status : Byte) : Bool := status.getLsbD 0

/-- The ID byte is that of a chip the block recognises (R97). -/
def recognised (id : Byte) : Bool := id &&& idSample == idSi7005

/-- The ready-poll loop has made its last allowed read (R125). -/
def pollExhausted (count limit : Nat) : Bool := count == limit

/-- *Busy*: the command port holds (R31, R220). -/
def State.busy (s : State) : Bool := s.phase != .idle

/-- *Have temperature*: `last_temperature` is set (R31). -/
def State.haveTemperature (s : State) : Bool := s.lastTemperature.isSome

end Sys2Proof.Machine
end

