-- ==== Sys2Proof/Machine/Ops.lean ====
section
/-! DEFINITION. The named operations the meanings share: events, pin, wait, bus transactions, responses, raising an
error and leaving a failed cycle (spec/00_scope.md rule R14, spec/20_memory.md rule R73, spec/60_exceptions.md). -/

namespace Sys2Proof.Machine

/-- Add one event to the trace (R35). -/
def emit (e : Event) (s : State) : State := { s with trace := s.trace ++ [e] }

/-- `phase <- P` (R14). -/
def goto (p : Phase) (s : State) : State := { s with phase := p }

/-- `PinMode(output); pin_mode <- OUTPUT` (R14, R191). -/
def pinModeOutput (s : State) : State := { emit (.mode .output) s with pinMode := .output }

/-- `PinWrite(b); cs <- b` (R14, R26). -/
def pinWrite (level : BitVec 1) (s : State) : State := { emit (.pin level) s with cs := level }

/-- `Wait(WAKE_UP_TIME)`; the wait is assumed to end (R14, R124, R303: log entry 3). -/
def wakeWait (s : State) : State := emit (.wait Config.wakeUpTime) s

/-- `Respond(code, value, info)` (R14, R108). -/
def respond (code : RspCode) (value : Binary64) (info : Byte) (s : State) : State := emit (.rsp code value info) s

/-- The environment's answer to the k-th read from now, counting from 0: the one offered, else a free one (R75: log
entry 1). -/
def xferAnswerAt (s : State) (k : Nat) : XferAnswer :=
  (s.xferAnswers.drop k).headD (Config.freeXferAnswer (s.readCount + k))

/-- The environment's answer to the k-th write from now, counting from 0: the one offered, else a free one (R75: log
entry 1). -/
def sendAnswerAt (s : State) (k : Nat) : SendAnswer :=
  (s.sendAnswers.drop k).headD (Config.freeSendAnswer (s.writeCount + k))

/-- The environment's answer to the next read. -/
def nextXferAnswer (s : State) : XferAnswer := xferAnswerAt s 0

/-- The environment's answer to the next write. -/
def nextSendAnswer (s : State) : SendAnswer := sendAnswerAt s 0

/-- One read transaction: `Xfer(a)` with its answer, one event whatever the answer (R72, R73, R121). -/
def busRead (a : Byte) (s : State) : State :=
  { emit (.xfer a (nextXferAnswer s)) s with xferAnswers := s.xferAnswers.tail, readCount := s.readCount + 1 }

/-- One write transaction: `Send(a, v)` with its answer, one event whatever the answer (R72, R73, R123). -/
def busWrite (a v : Byte) (s : State) : State :=
  { emit (.send a v (nextSendAnswer s)) s with sendAnswers := s.sendAnswers.tail, writeCount := s.writeCount + 1 }

/-- Where an error raised in a phase is raised from (R193, R244, R249, R195). -/
def Phase.raiseContext : Phase → RaiseContext
  | .bSelect | .bWait | .bReadId | .bRelease => .boot
  | .idle => .dispatch
  | .dead => .dead
  | .mSelect | .mWait | .mConfig | .mPoll | .mLatch | .mReadHi | .mReadLo | .mRelease | .mCompute | .mAbort => .cycle

/-- Raising an error. In a cycle: `err` is set and control goes to `M_ABORT`, nothing else (R249). In the identity
check: `ident` and `boot_err` are set and control goes to `B_RELEASE` (R193). At dispatch: the error is the response,
pin and bus untouched (R244). In `DEAD`: nothing (R195). -/
def raiseIn (c : RaiseContext) (e : ErrCode) (info : Byte) (s : State) : State :=
  match c with
  | .cycle => { s with err := ⟨e, info⟩, phase := .mAbort }
  | .boot => { s with ident := .failed, bootErr := some ⟨e, info⟩, phase := .bRelease }
  | .dispatch => goto .idle (respond e.code noValue noInfo s)
  | .dead => s

/-- Raising an error in whatever the block is doing (R14). -/
def raise (e : ErrCode) (info : Byte) (s : State) : State := raiseIn s.phase.raiseContext e info s

/-- `RREG a` inside a step: one read; the byte goes to `ok`, `Err` and `NoData` alike raise `BusError` (R120). -/
def readRegister (c : RaiseContext) (a : Byte) (ok : Byte → State → State) (s : State) : State :=
  match nextXferAnswer s with
  | .data b => ok b (busRead a s)
  | .err => raiseIn c .busError noInfo (busRead a s)
  | .noData => raiseIn c .busError noInfo (busRead a s)

/-- `WREG a, v` inside a step: one write; `Ack` goes on with `ok`, `Err` raises `BusError` (R122). -/
def writeRegister (c : RaiseContext) (a v : Byte) (ok : State → State) (s : State) : State :=
  match nextSendAnswer s with
  | .ack => ok (busWrite a v s)
  | .err => raiseIn c .busError noInfo (busWrite a v s)

/-- The step `M_ABORT`, the one way out of a failed cycle: release the pin, report, back to `IDLE` (R250). -/
def mAbort (s : State) : State := goto .idle (respond s.err.code.code noValue noInfo (pinWrite 1 s))

/-- An instruction's effect takes place unless the block is dead, where nothing takes place (R195: log entry 8). -/
def perform (effect : State → State) (s : State) : Host.Outcome State Fault Refusal :=
  match s.phase with
  | .dead => .fault .stuckDead
  | _ => .next (effect s)

/-- Accepting a command word: `Cmd(w)` and `cmd <- w`; outside `IDLE` the port holds and nothing changes (R220, R221). -/
def accept (w : Byte) (dispatch : State → State) (s : State) : State :=
  match s.phase with
  | .idle => dispatch { emit (.cmd w) s with cmd := w }
  | _ => s

/-- A step that is performed only when control has reached its phase: how the longer operations run their steps. -/
def inPhase (p : Phase) (effect : State → State) (s : State) : State := if s.phase = p then effect s else s

end Sys2Proof.Machine
end

