-- ==== Sys2Proof/Machine/Compensation.lean ====
section
/-! DEFINITION. Calibration and compensation (spec/42_compensation.md): the constants, the two formulas, and the step
`M_COMPUTE` around them (spec/45_host_commands.md rules R224, R225). -/

namespace Sys2Proof.Machine

/-- `TEMPERATURE_SLOPE` (R170). -/
def temperatureSlope : Binary64 := F64.toNum 32

/-- `TEMPERATURE_OFFSET` (R170). -/
def temperatureOffset : Binary64 := F64.toNum 50

/-- `HUMIDITY_SLOPE` (R170). -/
def humiditySlope : Binary64 := F64.toNum 16

/-- `HUMIDITY_OFFSET` (R170). -/
def humidityOffset : Binary64 := F64.toNum 24

/-- `a0` = -4.7844 (R170). -/
def a0 : Binary64 := F64.decimal true 47844 10000

/-- `a1` = 0.4008 (R170). -/
def a1 : Binary64 := F64.decimal false 4008 10000

/-- `a2` = -0.00393 (R170). -/
def a2 : Binary64 := F64.decimal true 393 100000

/-- `q0` = 0.1973 (R170). -/
def q0 : Binary64 := F64.decimal false 1973 10000

/-- `q1` = 0.00237 (R170). -/
def q1 : Binary64 := F64.decimal false 237 100000

/-- The reference temperature, 30 degrees Celsius (R170). -/
def referenceTemperature : Binary64 := F64.toNum 30

/-- `celsius = (toNum(raw16 >> 2) / 32) - 50` (R172, R173). -/
def celsius (raw16 : Sample) : Binary64 :=
  F64.sub (F64.div (F64.toNum (temperatureField raw16)) temperatureSlope) temperatureOffset

/-- `fahrenheit = ((celsius * 9) / 5) + 32`, left to right (R172, R174). -/
def fahrenheit (c : Binary64) : Binary64 :=
  F64.add (F64.div (F64.mul c (F64.toNum 9)) (F64.toNum 5)) (F64.toNum 32)

/-- The value a temperature command returns (R172). -/
def temperatureValue (raw16 : Sample) : TempUnit → Binary64
  | .celsius => celsius raw16
  | .fahrenheit => fahrenheit (celsius raw16)

/-- `curve = (toNum(raw16 >> 4) / 16) - 24` (R176). -/
def humidityCurve (raw16 : Sample) : Binary64 :=
  F64.sub (F64.div (F64.toNum (humidityField raw16)) humiditySlope) humidityOffset

/-- `linear = curve - ((((curve * curve) * a2) + (curve * a1)) + a0)` (R176). -/
def humidityLinear (curve : Binary64) : Binary64 :=
  F64.sub curve (F64.add (F64.add (F64.mul (F64.mul curve curve) a2) (F64.mul curve a1)) a0)

/-- `linear + ((t - 30) * ((linear * q1) + q0))` (R176). -/
def compensate (linear t : Binary64) : Binary64 :=
  F64.add linear (F64.mul (F64.sub t referenceTemperature) (F64.add (F64.mul linear q1) q0))

/-- The relative humidity of a sample at a stored temperature; never clamped (R176, R178). -/
def humidity (raw16 : Sample) (t : Binary64) : Binary64 := compensate (humidityLinear (humidityCurve raw16)) t

/-- `CTEMP raw16, unit`: the Celsius value is stored whichever unit is asked for (R172, R175). -/
def execCtemp (raw16 : Sample) (unit : TempUnit) (s : State) : Host.Outcome State Fault Refusal :=
  perform (fun s => { s with lastTemperature := some (celsius raw16), result := temperatureValue raw16 unit }) s

/-- `CHUM raw16`: `StaleCompensationError` where no temperature is stored, else `result` (R176, R177). Where that
error goes is the model's own: in a cycle log entry 15, outside one log entry 13. -/
def execChum (raw16 : Sample) (s : State) : Host.Outcome State Fault Refusal :=
  perform (fun s =>
    match s.lastTemperature with
    | none => raise .staleCompensationError noInfo s
    | some t => { s with result := humidity raw16 t }) s

/-- The rest of `M_COMPUTE` once `result` is written: `Respond(OK, result, 0x00); phase <- IDLE`. A `CHUM` that raised
has left the phase, and nothing more is done (R224, R225, R177: log entry 15). -/
def respondResult (s : State) : State :=
  inPhase .mCompute (fun s => goto .idle (respond codeOk s.result noInfo s)) s

end Sys2Proof.Machine
end

