-- ==== Sys2Proof/Machine/HostCommands.lean ====
section
/-! DEFINITION. The measurement commands at their acceptance (spec/45_host_commands.md rules R221 to R226). -/

namespace Sys2Proof.Machine

/-- `RDT.C`: latch the request and go to `M_SELECT`; the cycle's own steps follow (R221, R222). -/
def execRdtC (s : State) : Host.Outcome State Fault Refusal :=
  perform (accept wordRdtC fun s => goto .mSelect { s with cycle := .temperature, unit := .celsius }) s

/-- `RDT.F`: as `RDT.C` with the unit Fahrenheit (R221, R226). -/
def execRdtF (s : State) : Host.Outcome State Fault Refusal :=
  perform (accept wordRdtF fun s => goto .mSelect { s with cycle := .temperature, unit := .fahrenheit }) s

/-- `RDH`: `StaleCompensationError` at once where no temperature is stored, else a humidity cycle (R221, R223). -/
def execRdh (s : State) : Host.Outcome State Fault Refusal :=
  perform (accept wordRdh fun s =>
    match s.lastTemperature with
    | none => raiseIn .dispatch .staleCompensationError noInfo s
    | some _ => goto .mSelect { s with cycle := .humidity }) s

end Sys2Proof.Machine
end

