-- ==== Sys2Proof/Machine/Identity.lean ====
section
/-! DEFINITION. The device identity check (spec/43_identity_check.md rules R190 to R199). -/

namespace Sys2Proof.Machine

/-- The step `B_SELECT`: the pin becomes an output and is asserted (R191). -/
def bSelect (s : State) : State := goto .bWait (pinWrite 0 (pinModeOutput s))

/-- The step `B_WAIT`: `Wait(WAKE_UP_TIME); phase <- B_READ_ID` (R192). -/
def bWait (s : State) : State := goto .bReadId (wakeWait s)

/-- What the step `B_READ_ID` does with an answered ID byte (R193). -/
def idAnswered (b : Byte) (s : State) : State :=
  if recognised b then goto .bRelease { s with idRaw := b, ident := .ready }
  else raiseIn .boot .unrecognizedDeviceError b { s with idRaw := b }

/-- The step `B_READ_ID`: one read of ID, not retried (R193). -/
def bReadId (s : State) : State := readRegister .boot regId idAnswered s

/-- The step `B_RELEASE`: release the pin, then signal readiness or failure (R194). -/
def bRelease (s : State) : State :=
  match s.ident with
  | .ready => goto .idle (emit (.ident .ready) (pinWrite 1 s))
  | _ => goto .dead (emit (.ident (.failed s.bootErr)) (pinWrite 1 s))

/-- `RREG.ID` is the step `B_READ_ID` (R193). -/
def execRregId (s : State) : Host.Outcome State Fault Refusal := perform bReadId s

/-- `IDENT`: the four steps of the identity check (R190 to R194). -/
def execIdent (s : State) : Host.Outcome State Fault Refusal :=
  perform (fun s => bRelease (bReadId (bWait (bSelect s)))) s

end Sys2Proof.Machine
end

