-- ==== Sys2Proof/Machine/Measure.lean ====
section
/-! DEFINITION. The register protocol engine and the measurement cycle (spec/40_register_protocol.md,
spec/41_measurement_cycle.md): one definition per step, and the operations that run several of them. -/

namespace Sys2Proof.Machine

/-- `RREG a`: one read; the byte is the trace's, no register is written; a failure raises `BusError` in whatever the
block is doing (R120: log entry 13). -/
def execRreg (a : Byte) (s : State) : Host.Outcome State Fault Refusal :=
  perform (fun s => readRegister s.phase.raiseContext a (fun _ t => t) s) s

/-- `WREG a, v`: one write; no register is written; a failure raises `BusError` (R122: log entry 13). -/
def execWreg (a v : Byte) (s : State) : Host.Outcome State Fault Refusal :=
  perform (fun s => writeRegister s.phase.raiseContext a v (fun t => t) s) s

/-- The step `M_SELECT`: `PinWrite(0); cs <- 0; phase <- M_WAIT` (R141). -/
def mSelect (s : State) : State := goto .mWait (pinWrite 0 s)

/-- The step `M_WAIT`: `Wait(WAKE_UP_TIME); phase <- M_CONFIG` (R142). -/
def mWait (s : State) : State := goto .mConfig (wakeWait s)

/-- The step `M_CONFIG` with its CONFIG byte: the write, then `poll_cnt <- 0; phase <- M_POLL` (R143). -/
def writeConfig (v : Byte) (s : State) : State :=
  writeRegister .cycle regConfig v (fun t => goto .mPoll { t with pollCnt := 0 }) s

/-- The step `M_CONFIG`: the byte is `0x01 | mode | config_bits` (R143, R94). -/
def mConfig (s : State) : State := writeConfig (configByte s.cycle s.configBits) s

/-- What the step `M_POLL` does with an answered status byte: count the read, then ready, then the limit (R125, R246). -/
def pollAnswered (status : Byte) (s : State) : State :=
  let t := { s with statusByte := status, pollCnt := s.pollCnt + 1 }
  if notReady status then
    (if pollExhausted t.pollCnt t.pollLimit then raiseIn .cycle .timeoutError noInfo t else goto .mPoll t)
  else goto .mLatch t

/-- The step `M_POLL`: one STATUS read; a failed read is not counted (R125). -/
def mPoll (s : State) : State := readRegister .cycle regStatus pollAnswered s

/-- The step `M_LATCH`: write `0x00` to DATA (R145). -/
def mLatch (s : State) : State := writeRegister .cycle regData dataAck (goto .mReadHi) s

/-- The step `M_READ_HI`: read DATA-high (R146). -/
def mReadHi (s : State) : State :=
  readRegister .cycle regDataHi (fun b t => goto .mReadLo { t with hi := b }) s

/-- The step `M_READ_LO`: read DATA-low (R147). -/
def mReadLo (s : State) : State :=
  readRegister .cycle regDataLo (fun b t => goto .mRelease { t with lo := b }) s

/-- The step `M_RELEASE`: release the pin, then assemble the sample (R148). -/
def mRelease (s : State) : State :=
  goto .mCompute { pinWrite 1 s with raw16 := assembleSample s.hi s.lo }

/-- `RREG.STATUS` is the step `M_POLL` (R125). -/
def execRregStatus (s : State) : Host.Outcome State Fault Refusal := perform mPoll s

/-- `RREG.DATA_HI` is the step `M_READ_HI` (R146). -/
def execRregDataHi (s : State) : Host.Outcome State Fault Refusal := perform mReadHi s

/-- `RREG.DATA_LO` is the step `M_READ_LO` (R147). -/
def execRregDataLo (s : State) : Host.Outcome State Fault Refusal := perform mReadLo s

/-- `WREG.CONFIG` is the step `M_CONFIG` with the frame's own bits (R93, R143). -/
def execWregConfig (fast temp heat : Bool) (s : State) : Host.Outcome State Fault Refusal :=
  perform (writeConfig (configByte (if temp then .temperature else .humidity)
    ((if fast then configFast else 0x00) ||| (if heat then configHeat else 0x00)))) s

/-- `WREG.DATA_ACK` is the step `M_LATCH` (R145). -/
def execWregDataAck (s : State) : Host.Outcome State Fault Refusal := perform mLatch s

/-- The step `M_POLL` repeated, at most the given number of times, for as long as it leads back to itself (R126). -/
def pollLoop : Nat → State → State
  | 0, s => s
  | reads + 1, s =>
    match (mPoll s).phase with
    | .mPoll => pollLoop reads (mPoll s)
    | _ => mPoll s

/-- The ready-poll loop from `poll_cnt = 0`: it makes at most `POLL_LIMIT` reads (R126). -/
def readyPoll (s : State) : State := pollLoop s.pollLimit (goto .mPoll { s with pollCnt := 0 })

/-- `POLL` (R126). -/
def execPoll (s : State) : Host.Outcome State Fault Refusal := perform readyPoll s

/-- One measurement cycle, from `Pin(0)` to `Pin(1)`: on success it ends before `M_COMPUTE` with the sample in `raw16`,
on failure it has left by `M_ABORT` (R140, R149, R250: log entry 11). It starts in any phase but `DEAD` (log entry 12).
DESIGN CHOICE: it writes its operand into the register `cycle`, which a run has already set to it (log entry 23). -/
def measureCycle (c : CycleKind) (s : State) : State :=
  inPhase .mAbort mAbort
    (inPhase .mRelease mRelease
      (inPhase .mReadLo mReadLo
        (inPhase .mReadHi mReadHi
          (inPhase .mLatch mLatch
            (inPhase .mPoll readyPoll
              (mConfig (mWait (mSelect { s with cycle := c }))))))))

/-- `MEASURE.H` (R140). -/
def execMeasureH (s : State) : Host.Outcome State Fault Refusal := perform (measureCycle .humidity) s

/-- `MEASURE.T` (R140). -/
def execMeasureT (s : State) : Host.Outcome State Fault Refusal := perform (measureCycle .temperature) s

end Sys2Proof.Machine
end

