-- ==== Sys2Proof/Machine/Toggles.lean ====
section
/-! DEFINITION. The configuration toggles (spec/44_config_toggles.md rules R205 to R209): explicit set and clear. -/

namespace Sys2Proof.Machine

/-- What the four toggles share: write `config_bits`, respond `OK` with no value, stay in `IDLE` (R209). -/
def toggle (bits : Byte) (s : State) : State :=
  goto .idle (respond codeOk noValue noInfo { s with configBits := bits })

/-- `HEAT.ON`: `config_bits <- config_bits | 0x02` (R205). -/
def execHeatOn (s : State) : Host.Outcome State Fault Refusal :=
  perform (accept wordHeatOn fun s => toggle (s.configBits ||| configHeat) s) s

/-- `HEAT.OFF`: `config_bits <- config_bits & 0xFD` (R206). -/
def execHeatOff (s : State) : Host.Outcome State Fault Refusal :=
  perform (accept wordHeatOff fun s => toggle (s.configBits &&& ~~~configHeat) s) s

/-- `FAST.ON`: `config_bits <- config_bits | 0x20` (R207). -/
def execFastOn (s : State) : Host.Outcome State Fault Refusal :=
  perform (accept wordFastOn fun s => toggle (s.configBits ||| configFast) s) s

/-- `FAST.OFF`: `config_bits <- config_bits & 0xDF` (R208). -/
def execFastOff (s : State) : Host.Outcome State Fault Refusal :=
  perform (accept wordFastOff fun s => toggle (s.configBits &&& ~~~configFast) s) s

end Sys2Proof.Machine
end

