-- ==== Sys2Proof/Machine/Dispatch.lean ====
section
/-! DEFINITION. One arm per operation of the block (spec/00_scope.md rule R6), each a direct call of its meaning. -/

namespace Sys2Proof.Machine

def exec (i : Instr) (s : State) : Host.Outcome State Fault Refusal :=
  match i with
  | .rdtC => Sys2Proof.Machine.execRdtC s
  | .rdtF => Sys2Proof.Machine.execRdtF s
  | .rdh => Sys2Proof.Machine.execRdh s
  | .heatOff => Sys2Proof.Machine.execHeatOff s
  | .heatOn => Sys2Proof.Machine.execHeatOn s
  | .fastOff => Sys2Proof.Machine.execFastOff s
  | .fastOn => Sys2Proof.Machine.execFastOn s
  | .rreg addr => Sys2Proof.Machine.execRreg addr s
  | .rregStatus => Sys2Proof.Machine.execRregStatus s
  | .rregDataHi => Sys2Proof.Machine.execRregDataHi s
  | .rregDataLo => Sys2Proof.Machine.execRregDataLo s
  | .rregId => Sys2Proof.Machine.execRregId s
  | .wreg addr value => Sys2Proof.Machine.execWreg addr value s
  | .wregConfig fast temp heat => Sys2Proof.Machine.execWregConfig fast temp heat s
  | .wregDataAck => Sys2Proof.Machine.execWregDataAck s
  | .ident => Sys2Proof.Machine.execIdent s
  | .poll => Sys2Proof.Machine.execPoll s
  | .measureH => Sys2Proof.Machine.execMeasureH s
  | .measureT => Sys2Proof.Machine.execMeasureT s
  | .ctemp raw16 unit => Sys2Proof.Machine.execCtemp raw16 unit s
  | .chum raw16 => Sys2Proof.Machine.execChum raw16 s

end Sys2Proof.Machine
end

