-- ==== Sys2Proof/Machine/Sequencer.lean ====
section
/-! DEFINITION. The sequencer: the step of each phase (spec/10_state.md rule R24), the `IDLE` step that takes a command
word from the port (spec/45_host_commands.md rule R221), and the word or frame a step is about. -/

namespace Sys2Proof.Machine

/-- The format and bytes of the word or frame the next step is about: the word at the command port in `IDLE`, the frame
the step issues in a bus step, nothing in a step that is neither (R24, R106, R130). -/
def fetched (s : State) : Option (Format × List Byte) :=
  match s.phase with
  | .idle => s.port.head?.map fun w => (.cmd8, [w])
  | .bReadId => some (.xfer1, [regId])
  | .mConfig => some (.send2, [regConfig, configByte s.cycle s.configBits])
  | .mPoll => some (.xfer1, [regStatus])
  | .mLatch => some (.send2, [regData, dataAck])
  | .mReadHi => some (.xfer1, [regDataHi])
  | .mReadLo => some (.xfer1, [regDataLo])
  | .bSelect | .bWait | .bRelease | .dead | .mSelect | .mWait | .mRelease | .mCompute | .mAbort => none

/-- The step `IDLE`: with no word offered the block waits, unchanged (R221, R265: log entry 2); a reserved word is
refused (R104); any other word is taken from the port and its command dispatched (R221). -/
def idleStep (s : State) : Host.Outcome State Fault Refusal :=
  match s.port with
  | [] => .next s
  | w :: rest =>
    match decodeCommand w with
    | .ok i => exec i { s with port := rest }
    | .error _ => .refused (.reservedCommand w)

/-- The operation the step `M_COMPUTE` performs (R224, R225). -/
def computation (s : State) : Instr :=
  match s.cycle with
  | .temperature => .ctemp s.raw16 s.unit
  | .humidity => .chum s.raw16

/-- Do something more to the next state of an outcome. -/
def andThen (o : Host.Outcome State Fault Refusal) (f : State → State) : Host.Outcome State Fault Refusal :=
  match o with
  | .next s => .next (f s)
  | .fault r => .fault r
  | .refused r => .refused r

/-- The step `M_COMPUTE`: the compensation, then the response (R224, R225). -/
def computeStep (s : State) : Host.Outcome State Fault Refusal := andThen (exec (computation s) s) respondResult

/-- One step of the block: the step of its phase (R24). -/
def phaseStep (s : State) : Host.Outcome State Fault Refusal :=
  match s.phase with
  | .bSelect => .next (bSelect s)
  | .bWait => .next (bWait s)
  | .bReadId => exec .rregId s
  | .bRelease => .next (bRelease s)
  | .dead => .fault .stuckDead
  | .idle => idleStep s
  | .mSelect => .next (mSelect s)
  | .mWait => .next (mWait s)
  | .mConfig => .next (mConfig s)
  | .mPoll => exec .rregStatus s
  | .mLatch => exec .wregDataAck s
  | .mReadHi => exec .rregDataHi s
  | .mReadLo => exec .rregDataLo s
  | .mRelease => .next (mRelease s)
  | .mCompute => computeStep s
  | .mAbort => .next (mAbort s)

/-- The state in which the very next step is about the given word or frame: a command word stands at the port of an
idle block; for a frame the block issues, control stands at the step that issues it, with the registers its free bits
come from; no step issues any other frame (R24, R106: log entry 14). -/
def placeInstr (i : Instr) (w : Byte) (s : State) : State :=
  match i with
  | .rdtC | .rdtF | .rdh | .heatOff | .heatOn | .fastOff | .fastOn => { s with phase := .idle, port := w :: s.port }
  | .rregStatus => { s with phase := .mPoll }
  | .rregDataHi => { s with phase := .mReadHi }
  | .rregDataLo => { s with phase := .mReadLo }
  | .rregId => { s with phase := .bReadId }
  | .wregConfig fast temp heat =>
    { s with
      phase := .mConfig
      cycle := if temp then .temperature else .humidity
      configBits := (if fast then configFast else 0x00) ||| (if heat then configHeat else 0x00) }
  | .wregDataAck => { s with phase := .mLatch }
  | .rreg _ | .wreg _ _ | .ident | .poll | .measureH | .measureT | .ctemp _ _ | .chum _ => s

/-- `placeInstr` for the word the opcode table's numbering gives (log entry 14). -/
def placeWord (nbits w : Nat) (s : State) : State :=
  match decodeTableWord nbits w with
  | some i => placeInstr i (BitVec.ofNat 8 w) s
  | none => s

end Sys2Proof.Machine
end

