-- ==== Sys2Proof/Safety.lean ====
section
/-! DEFINITION. What counts as a safe run of the block, in the terms the statements use: the control invariant
(spec/10_state.md rules R38 to R40), the rules over the trace (rule R40(d), spec/95_test_vectors.md section 11), and the
states a run reaches. -/

namespace Sys2Proof.Machine

/-- The next state of an outcome, if it has one. -/
def nextState? (o : Host.Outcome State Fault Refusal) : Option State :=
  match o with
  | .next s => some s
  | .fault _ => none
  | .refused _ => none

/-- The phases of an accepted measurement command (R153). -/
def Phase.inCycle : Phase → Bool
  | .mSelect | .mWait | .mConfig | .mPoll | .mLatch | .mReadHi | .mReadLo | .mRelease | .mCompute | .mAbort => true
  | .bSelect | .bWait | .bReadId | .bRelease | .dead | .idle => false

/-- The chip-select level a phase begins with (R40(c), R37). -/
def Phase.level : Phase → BitVec 1
  | .bSelect | .dead | .idle | .mSelect | .mCompute => 1
  | .bWait | .bReadId | .bRelease | .mWait | .mConfig | .mPoll | .mLatch | .mReadHi | .mReadLo | .mRelease | .mAbort => 0

/-- What `ident` holds in a phase (R22, R40(a), R40(b)). -/
def Phase.identOk (p : Phase) (i : IdentStatus) : Bool :=
  match p with
  | .bSelect | .bWait | .bReadId => i == .pending
  | .bRelease => i != .pending
  | .dead => i == .failed
  | .idle | .mSelect | .mWait | .mConfig | .mPoll | .mLatch | .mReadHi | .mReadLo | .mRelease | .mCompute | .mAbort =>
    i == .ready

/-- The command word, the cycle and the unit that were latched together (R221). -/
def latched (s : State) : Bool :=
  (s.cmd == wordRdtC && s.cycle == .temperature && s.unit == .celsius)
    || (s.cmd == wordRdtF && s.cycle == .temperature && s.unit == .fahrenheit)
    || (s.cmd == wordRdh && s.cycle == .humidity && s.haveTemperature)

/-- Why the identity check can have failed (R25, R109). -/
def bootErrOk (i : IdentStatus) (e : Option ErrInfo) : Bool :=
  match i, e with
  | .failed, some ⟨.busError, info⟩ => info == 0x00
  | .failed, some ⟨.unrecognizedDeviceError, info⟩ => !recognised info
  | .pending, none => true
  | .ready, none => true
  | _, _ => false

/-- The control invariant: what the registers of the block hold in every reachable state. -/
structure ControlInv (s : State) : Prop where
  /-- `config_bits & 0xDD = 0` (R38). -/
  hardwired : s.configBits &&& configHardwired = 0
  /-- `ident` agrees with the phase (R40(a), R40(b)). -/
  identity : s.phase.identOk s.ident = true
  /-- `boot_err` says why a failed check failed, and is `none` otherwise (R25). -/
  bootErr : bootErrOk s.ident s.bootErr = true
  /-- The chip-select level agrees with the phase (R40(c)). -/
  level : s.cs = s.phase.level
  /-- The pin is an output once `B_SELECT` is done (R191). -/
  output : s.pinMode = (if s.phase = .bSelect then .unset else .output)
  /-- The limit is at least 1 (R11). -/
  limit : 1 ≤ s.pollLimit
  /-- The count never exceeds the limit, and is below it while the loop goes on (R29, R261). -/
  count : s.pollCnt ≤ s.pollLimit ∧ (s.phase = .mPoll → s.pollCnt < s.pollLimit)
  /-- A stored temperature is the Celsius value of some sample (R39). -/
  stored : ∀ t, s.lastTemperature = some t → ∃ raw16 : Sample, t = celsius raw16
  /-- During a measurement command its word, cycle and unit are latched; a humidity cycle has a temperature (R225). -/
  latched : s.phase.inCycle = true → latched s = true
  /-- The error a failed cycle reports is `BusError` or `TimeoutError` (R250). -/
  error : s.phase = .mAbort → s.err = ⟨.busError, 0x00⟩ ∨ s.err = ⟨.timeoutError, 0x00⟩

/-- Where a trace stands in the discipline of access windows (R17, R40(d), R124). -/
inductive Window where
  | parked
  | waking
  | awake
  | broken
  deriving DecidableEq, Repr

/-- One event in that discipline: a window opens with `Pin(0)`, then one `Wait(15)`, then only bus requests, and closes
with `Pin(1)`; commands, responses and the identity event stand outside windows (R40(d), R151, R227). -/
def Window.next : Window → Event → Window
  | .parked, .pin b => if b = 0 then .waking else .broken
  | .parked, .mode _ => .parked
  | .parked, .cmd _ => .parked
  | .parked, .rsp _ _ _ => .parked
  | .parked, .ident _ => .parked
  | .waking, .wait n => if n = 15 then .awake else .broken
  | .awake, .xfer _ _ => .awake
  | .awake, .send _ _ _ => .awake
  | .awake, .pin b => if b = 1 then .parked else .broken
  | _, _ => .broken

/-- Where a whole trace stands. -/
def window (trace : List Event) : Window := trace.foldl Window.next .parked

/-- Where the trace stands when a phase begins. -/
def Phase.window : Phase → Window
  | .bSelect | .dead | .idle | .mSelect | .mCompute => .parked
  | .bWait | .mWait => .waking
  | .bReadId | .bRelease | .mConfig | .mPoll | .mLatch | .mReadHi | .mReadLo | .mRelease | .mAbort => .awake

/-- An accepted command. -/
def Event.isCmd : Event → Bool
  | .cmd _ => true
  | _ => false

/-- A response. -/
def Event.isRsp : Event → Bool
  | .rsp _ _ _ => true
  | _ => false

/-- An identity event. -/
def Event.isIdent : Event → Bool
  | .ident _ => true
  | _ => false

/-- A bus transaction. -/
def Event.isBus : Event → Bool
  | .xfer _ _ => true
  | .send _ _ _ => true
  | _ => false

/-- A read of STATUS. -/
def Event.isStatusRead : Event → Bool
  | .xfer a _ => a == regStatus
  | _ => false

/-- A call of the digital output. -/
def Event.isPin : Event → Bool
  | .pin _ => true
  | .mode _ => true
  | _ => false

/-- Commands accepted are responses given, plus one while a measurement command is in progress (R228). -/
def responsesPaired (s : State) : Prop :=
  s.trace.countP Event.isCmd = s.trace.countP Event.isRsp + (if s.phase.inCycle then 1 else 0)

/-- The eight CONFIG bytes (R95). -/
def configBytes : List Byte := [0x01, 0x03, 0x21, 0x23, 0x11, 0x13, 0x31, 0x33]

/-- A bus event carries one of the frames the block may send; other events are unconstrained (R61, R105, R123). -/
def Event.legalFrame : Event → Bool
  | .xfer a _ => a == 0x00 || a == 0x01 || a == 0x02 || a == 0x11
  | .send a v _ => (a == 0x03 && configBytes.contains v) || (a == 0x01 && v == 0x00)
  | _ => true

/-- One event read for the rule of R229: the last command word accepted, and whether an `RDT` command has been answered
`OK`. -/
def temperatureNext (seen : Byte × Bool) : Event → Byte × Bool
  | .cmd w => (w, seen.2)
  | .rsp code _ _ => (seen.1, seen.2 || (code == codeOk && (seen.1 == wordRdtC || seen.1 == wordRdtF)))
  | .mode _ | .pin _ | .wait _ | .xfer _ _ | .send _ _ _ | .ident _ => seen

/-- The last command word accepted, and whether an `RDT` command has been answered `OK`, as a whole trace shows it
(R229). -/
def temperatureSeen (trace : List Event) : Byte × Bool := trace.foldl temperatureNext (0x00, false)

/-- The block has a temperature exactly when an `RDT` command has been answered `OK`; during a command the word in
progress is the last one accepted (R229). -/
def staleRule (s : State) : Prop :=
  (temperatureSeen s.trace).2 = s.haveTemperature ∧ (s.phase.inCycle = true → (temperatureSeen s.trace).1 = s.cmd)

/-- The trace rules together. -/
structure TraceInv (s : State) : Prop where
  /-- The access windows are in order (R40(d), R124). -/
  windows : window s.trace = s.phase.window
  /-- Commands and responses are paired (R228). -/
  paired : responsesPaired s
  /-- Every bus request is one the block may make (R105, R123). -/
  frames : s.trace.all Event.legalFrame = true
  /-- The stored temperature agrees with the responses given (R229). -/
  temperature : staleRule s

/-- The states a run reaches, from the release of reset with any `POLL_LIMIT` of at least 1 and any offers of host and
environment (R281, R75, R300). -/
inductive Reachable : State → Prop where
  | reset (limit : Nat) (port : List Byte) (xfers : List XferAnswer) (sends : List SendAnswer) (positive : 1 ≤ limit) :
    Reachable (State.resetWith limit port xfers sends)
  | step (s t : State) (before : Reachable s) (taken : step s = .next t) : Reachable t

/-- `n` steps of the machine. -/
def run (n : Nat) (s : State) : Host.Outcome State Fault Refusal := Host.Core.run core n s

/-- The state after one read transaction, written out: one event with the environment's next answer, and that answer
used up (R72, R121). -/
def afterRead (a : Byte) (s : State) : State :=
  { s with
    trace := s.trace ++ [.xfer a (nextXferAnswer s)]
    xferAnswers := s.xferAnswers.tail
    readCount := s.readCount + 1 }

/-- The state after one write transaction, written out: one event with the environment's next answer, and that answer
used up (R72, R123). -/
def afterWrite (a v : Byte) (s : State) : State :=
  { s with
    trace := s.trace ++ [.send a v (nextSendAnswer s)]
    sendAnswers := s.sendAnswers.tail
    writeCount := s.writeCount + 1 }

/-- The four toggles: the bit (`true` = HEAT, `false` = FAST) and the operand (R205 to R208). -/
def toggleInstr : Bool × Bool → Instr
  | (true, true) => .heatOn
  | (true, false) => .heatOff
  | (false, true) => .fastOn
  | (false, false) => .fastOff

/-- Instructions performed one after another, stopping at the first that has no next state. -/
def execAll : List Instr → State → Host.Outcome State Fault Refusal
  | [], s => .next s
  | i :: rest, s => andThenExec (exec i s) (execAll rest)
where
  /-- Go on from a next state. -/
  andThenExec (o : Host.Outcome State Fault Refusal) (f : State → Host.Outcome State Fault Refusal) :
      Host.Outcome State Fault Refusal :=
    match o with
    | .next s => f s
    | .fault r => .fault r
    | .refused r => .refused r

/-- The operand of the last toggle of one bit in a sequence, or the given value if there is none (R211). -/
def lastOperand (heat : Bool) (toggles : List (Bool × Bool)) (before : Bool) : Bool :=
  toggles.foldl (fun b p => if p.1 = heat then p.2 else b) before

/-- The measurement operation of a cycle kind (R140). -/
def measureInstr : CycleKind → Instr
  | .temperature => .measureT
  | .humidity => .measureH

/-- The environment will answer one measurement cycle without a failure: the status bytes `busy` find the chip busy,
`ready` finds it ready within the limit, and the data bytes are `hi` and `lo` (R150). -/
structure GoodCycle (s : State) (busy : List Byte) (ready hi lo : Byte) : Prop where
  within : busy.length < s.pollLimit
  busySet : ∀ b ∈ busy, b.getLsbD 0 = true
  readyClear : ready.getLsbD 0 = false
  busyAnswers : ∀ k b, busy[k]? = some b → xferAnswerAt s k = .data b
  readyAnswer : xferAnswerAt s busy.length = .data ready
  hiAnswer : xferAnswerAt s (busy.length + 1) = .data hi
  loAnswer : xferAnswerAt s (busy.length + 2) = .data lo
  configAnswer : sendAnswerAt s 0 = .ack
  latchAnswer : sendAnswerAt s 1 = .ack

/-- The events of one successful cycle: the CONFIG byte, the status bytes of the reads that found the chip busy, the one
that found it ready, and the two data bytes (R150). -/
def cycleTrace (config : Byte) (busy : List Byte) (ready hi lo : Byte) : List Event :=
  [.pin 0, .wait 15, .send 0x03 config .ack]
    ++ busy.map (fun b => .xfer 0x00 (.data b))
    ++ [.xfer 0x00 (.data ready), .send 0x01 0x00 .ack, .xfer 0x01 (.data hi), .xfer 0x02 (.data lo), .pin 1]

end Sys2Proof.Machine
end

