-- ==== Sys2Proof/Certificates/Slice0/Obligations.lean ====
section
/-! DEFINITION. The statements for the provers. Constants are written as the spec prints them. -/

open Sys2Proof Sys2Proof.Machine

/-! ## Encodings -/

/-- Decoding the bytes of an operation that has a bit pattern names it (R102, R90, R91); a generic frame that is an
instance row's is named as that row, every other operation as itself (R111). -/
def Obligations.DecodeNamesEncodedInstruction : Prop :=
  (∀ i : Instr, i.format ≠ .internal → decode i.format (encode i) = .ok i.named) ∧
  (∀ i : Instr, (∀ a, i ≠ .rreg a) → (∀ a v, i ≠ .wreg a v) → i.named = i) ∧
  (∀ a, readableAddress a = false → Instr.named (.rreg a) = .rreg a) ∧
  (∀ a v, Event.legalFrame (.send a v .ack) = false → Instr.named (.wreg a v) = .wreg a v)

/-- Whatever bytes decode to an instruction are that instruction's bytes in that format: no word has two meanings. -/
def Obligations.EncodeReturnsDecodedBytes : Prop :=
  ∀ (f : Format) (bytes : List Byte) (i : Instr), decode f bytes = .ok i → i.format = f ∧ encode i = bytes

/-- The seven command words of R102, bit by bit; every other word is reserved. -/
def Obligations.CommandWordsDecode : Prop :=
  decode .cmd8 [0b00010000] = .ok .rdtC ∧
  decode .cmd8 [0b00010001] = .ok .rdtF ∧
  decode .cmd8 [0b00100000] = .ok .rdh ∧
  decode .cmd8 [0b00110000] = .ok .heatOff ∧
  decode .cmd8 [0b00110001] = .ok .heatOn ∧
  decode .cmd8 [0b01000000] = .ok .fastOff ∧
  decode .cmd8 [0b01000001] = .ok .fastOn ∧
  (∀ w : Byte, w ∉ [0x10, 0x11, 0x20, 0x30, 0x31, 0x40, 0x41] → ∃ r, decode .cmd8 [w] = .error r)

/-- The frames of R90 and R91, bit by bit. -/
def Obligations.BusFramesDecode : Prop :=
  decode .xfer1 [0b00000000] = .ok .rregStatus ∧
  decode .xfer1 [0b00000001] = .ok .rregDataHi ∧
  decode .xfer1 [0b00000010] = .ok .rregDataLo ∧
  decode .xfer1 [0b00010001] = .ok .rregId ∧
  decode .send2 [0b00000011, 0b00110011] = .ok (.wregConfig true true true) ∧
  decode .send2 [0b00000011, 0b00010001] = .ok (.wregConfig false true false) ∧
  decode .send2 [0b00000001, 0b00000000] = .ok .wregDataAck ∧
  decode .xfer1 [0x42] = .ok (.rreg 0x42) ∧
  decode .send2 [0x01, 0x42] = .ok (.wreg 0x01 0x42)

/-- The reserved command words of R104, their number, and that the block gives none of them a meaning
(rendered as a refusal, log entry 9). -/
def Obligations.ReservedCommandWordsRefused : Prop :=
  (∀ w : Byte, (∃ r, decode .cmd8 [w] = .error r) ↔
    ((w >>> 4).toNat ∉ [1, 2, 3, 4] ∨ w &&& 0x0E ≠ 0 ∨ w = 0x21)) ∧
  (List.range 256).countP (fun n => (decode .cmd8 [BitVec.ofNat 8 n]).toOption.isNone) = 249 ∧
  (∀ (s : State) (w : Byte) (rest : List Byte) (r : Reject), s.phase = .idle → s.port = w :: rest →
    decode .cmd8 [w] = .error r → step s = .refused (.reservedCommand w))

/-- The CONFIG byte of `M_CONFIG` is one of the eight of R95, in the table's order. -/
def Obligations.ConfigByteTable : Prop :=
  configByte .humidity 0x00 = 0b00000001 ∧ configByte .humidity 0x02 = 0b00000011 ∧
  configByte .humidity 0x20 = 0b00100001 ∧ configByte .humidity 0x22 = 0b00100011 ∧
  configByte .temperature 0x00 = 0b00010001 ∧ configByte .temperature 0x02 = 0b00010011 ∧
  configByte .temperature 0x20 = 0b00110001 ∧ configByte .temperature 0x22 = 0b00110011 ∧
  (∀ (c : CycleKind) (b : Byte), b &&& 0xDD = 0 → configByte c b ∈ configBytes)

/-- The assembly of the raw sample from the two data bytes (R99). -/
def Obligations.RawSampleAssembly : Prop :=
  ∀ h l : Byte, assembleSample h l = l.zeroExtend 16 ||| (h.zeroExtend 16 <<< 8) ∧
    (assembleSample h l).extractLsb' 8 8 = h ∧ (assembleSample h l).extractLsb' 0 8 = l ∧
    (assembleSample h l).toNat = 256 * h.toNat + l.toNat

/-- The chip is recognised by bits 7:4 of the ID byte alone, in the three forms R97 gives. -/
def Obligations.IdByteRecognised : Prop :=
  (∀ b : Byte, recognised b = decide (b &&& 0xF0 = 0x50) ∧
    recognised b = decide (b.extractLsb' 4 4 = 0b0101) ∧
    recognised b = decide (0x50 ≤ b.toNat ∧ b.toNat ≤ 0x5F)) ∧
  (0x11 : Byte) &&& 0xF0 = 0x10 ∧ recognised 0x11 = false

/-- The measurement fields of `raw16`, and that the bits the shifts discard have no effect on any result (R100). -/
def Obligations.MeasurementFields : Prop :=
  ∀ raw : Sample,
    temperatureField raw = raw.toNat / 4 ∧ temperatureField raw ≤ 16383 ∧
    humidityField raw = raw.toNat / 16 ∧ humidityField raw ≤ 4095 ∧
    (∀ raw' : Sample, raw' >>> 2 = raw >>> 2 → ∀ u s, exec (.ctemp raw' u) s = exec (.ctemp raw u) s) ∧
    (∀ raw' : Sample, raw' >>> 4 = raw >>> 4 → ∀ s, exec (.chum raw') s = exec (.chum raw) s)

/-! ## Fetch and step -/

/-- What the step of each phase is about, and that a step whose word or frame decodes is that instruction's `exec`; in
`IDLE` the word is first taken from the port (the port is the model's own: log entry 2). The premise on `M_CONFIG` is
the invariant of R38. -/
def Obligations.StepRunsFetchedInstruction : Prop :=
  (∀ (s : State) (w : Byte) (rest : List Byte), s.phase = .idle → s.port = w :: rest → fetched s = some (.cmd8, [w])) ∧
  (∀ s : State, s.phase = .bReadId → fetched s = some (.xfer1, [0x11])) ∧
  (∀ s : State, s.phase = .mConfig → fetched s = some (.send2, [0x03, configByte s.cycle s.configBits])) ∧
  (∀ s : State, s.phase = .mPoll → fetched s = some (.xfer1, [0x00])) ∧
  (∀ s : State, s.phase = .mLatch → fetched s = some (.send2, [0x01, 0x00])) ∧
  (∀ s : State, s.phase = .mReadHi → fetched s = some (.xfer1, [0x01])) ∧
  (∀ s : State, s.phase = .mReadLo → fetched s = some (.xfer1, [0x02])) ∧
  (∀ (s : State) (f : Format) (bytes : List Byte) (i : Instr), fetched s = some (f, bytes) → decode f bytes = .ok i →
    (s.phase = .mConfig → s.configBits &&& 0xDD = 0) →
    i.wellFormed = true ∧
    step s = exec i (if s.phase = .idle then { s with port := s.port.tail } else s))

/-- The step `M_COMPUTE` performs `CTEMP` or `CHUM` on the sample and answers with its result (R224, R225). -/
def Obligations.ComputeStepResponds : Prop :=
  ∀ s : State, s.phase = .mCompute →
    (s.cycle = .temperature → step s = .next
      { s with
        lastTemperature := some (celsius s.raw16)
        result := temperatureValue s.raw16 s.unit
        trace := s.trace ++ [.rsp 0 (temperatureValue s.raw16 s.unit) 0x00]
        phase := .idle }) ∧
    (s.cycle = .humidity → ∀ t, s.lastTemperature = some t → step s = .next
      { s with
        result := humidity s.raw16 t
        trace := s.trace ++ [.rsp 0 (humidity s.raw16 t) 0x00]
        phase := .idle })

/-- The block is stuck in `DEAD`: no step, and no instruction has any effect (R195; rendered as a fault, log entry 8). -/
def Obligations.DeadBlockIsStuck : Prop :=
  ∀ s : State, s.phase = .dead → step s = .fault .stuckDead ∧ ∀ i, exec i s = .fault .stuckDead

/-! ## Host commands -/

/-- `RDT.C` and `RDT.F` accepted in `IDLE`: the request is latched and the cycle begins (R221, R222, R226). -/
def Obligations.RdtStartsTemperatureCycle : Prop :=
  ∀ s : State, s.phase = .idle →
    exec .rdtC s = .next
      { s with
        trace := s.trace ++ [.cmd 0x10], cmd := 0x10, cycle := .temperature, unit := .celsius, phase := .mSelect } ∧
    exec .rdtF s = .next
      { s with
        trace := s.trace ++ [.cmd 0x11], cmd := 0x11, cycle := .temperature, unit := .fahrenheit, phase := .mSelect }

/-- `RDH` accepted in `IDLE`: a humidity cycle begins where a temperature is stored; where none is, the response is
`StaleCompensationError` at once, with no pin and no bus activity (R221, R223, R244). -/
def Obligations.RdhChecksStoredTemperature : Prop :=
  ∀ s : State, s.phase = .idle →
    (∀ t, s.lastTemperature = some t → exec .rdh s = .next
      { s with trace := s.trace ++ [.cmd 0x20], cmd := 0x20, cycle := .humidity, phase := .mSelect }) ∧
    (s.lastTemperature = none → exec .rdh s = .next
      { s with trace := s.trace ++ [.cmd 0x20, .rsp 4 0 0x00], cmd := 0x20 })

/-- `HEAT.ON` (R205). -/
def Obligations.HeatOnSetsHeatBit : Prop :=
  decode .cmd8 [0x31] = .ok .heatOn ∧
  (∀ s : State, s.phase = .idle → exec .heatOn s = .next
    { s with
      configBits := s.configBits ||| 0x02, cmd := 0x31, trace := s.trace ++ [.cmd 0x31, .rsp 0 0 0x00], phase := .idle }) ∧
  (∀ b : Byte, (b ||| 0x02).getLsbD 1 = true ∧ ∀ k, k ≠ 1 → (b ||| 0x02).getLsbD k = b.getLsbD k) ∧
  (0x20 : Byte) ||| 0x02 = 0x22

/-- `HEAT.OFF` (R206). -/
def Obligations.HeatOffClearsHeatBit : Prop :=
  decode .cmd8 [0x30] = .ok .heatOff ∧
  (∀ s : State, s.phase = .idle → exec .heatOff s = .next
    { s with
      configBits := s.configBits &&& 0xFD, cmd := 0x30, trace := s.trace ++ [.cmd 0x30, .rsp 0 0 0x00], phase := .idle }) ∧
  (∀ b : Byte, (b &&& 0xFD).getLsbD 1 = false ∧ ∀ k, k ≠ 1 → (b &&& 0xFD).getLsbD k = b.getLsbD k) ∧
  (0x22 : Byte) &&& 0xFD = 0x20 ∧ (0x00 : Byte) &&& 0xFD = 0x00

/-- `FAST.ON` (R207). -/
def Obligations.FastOnSetsFastBit : Prop :=
  decode .cmd8 [0x41] = .ok .fastOn ∧
  (∀ s : State, s.phase = .idle → exec .fastOn s = .next
    { s with
      configBits := s.configBits ||| 0x20, cmd := 0x41, trace := s.trace ++ [.cmd 0x41, .rsp 0 0 0x00], phase := .idle }) ∧
  (∀ b : Byte, (b ||| 0x20).getLsbD 5 = true ∧ ∀ k, k ≠ 5 → (b ||| 0x20).getLsbD k = b.getLsbD k) ∧
  (0x00 : Byte) ||| 0x20 = 0x20

/-- `FAST.OFF` (R208). -/
def Obligations.FastOffClearsFastBit : Prop :=
  decode .cmd8 [0x40] = .ok .fastOff ∧
  (∀ s : State, s.phase = .idle → exec .fastOff s = .next
    { s with
      configBits := s.configBits &&& 0xDF, cmd := 0x40, trace := s.trace ++ [.cmd 0x40, .rsp 0 0 0x00], phase := .idle }) ∧
  (∀ b : Byte, (b &&& 0xDF).getLsbD 5 = false ∧ ∀ k, k ≠ 5 → (b &&& 0xDF).getLsbD k = b.getLsbD k) ∧
  (0x22 : Byte) &&& 0xDF = 0x02

/-- After any sequence of toggles the two bits hold the last operands and every other bit is as before (R211). -/
def Obligations.ToggleSequenceKeepsLastOperands : Prop :=
  ∀ (toggles : List (Bool × Bool)) (s : State), s.phase = .idle →
    ∃ t, execAll (toggles.map toggleInstr) s = .next t ∧ t.phase = .idle ∧
      t.configBits.getLsbD 1 = lastOperand true toggles (s.configBits.getLsbD 1) ∧
      t.configBits.getLsbD 5 = lastOperand false toggles (s.configBits.getLsbD 5) ∧
      (∀ k, k ≠ 1 → k ≠ 5 → t.configBits.getLsbD k = s.configBits.getLsbD k) ∧
      t.lastTemperature = s.lastTemperature ∧ t.cs = s.cs ∧ t.trace.countP Event.isBus = s.trace.countP Event.isBus

/-- The command port holds outside `IDLE`: a command changes nothing there, and no step there accepts a command or
takes a word from the port (R220). In `IDLE` with no command offered nothing changes either (R221; rendered as a step
that changes nothing, log entry 2). That a command instruction changes nothing outside `IDLE` is log entry 19. -/
def Obligations.CommandPortHolds : Prop :=
  (∀ (i : Instr) (s : State), i.format = .cmd8 → s.phase ≠ .idle → s.phase ≠ .dead → exec i s = .next s) ∧
  (∀ s t : State, step s = .next t → s.phase ≠ .idle →
    t.port = s.port ∧ t.cmd = s.cmd ∧ t.trace.countP Event.isCmd = s.trace.countP Event.isCmd) ∧
  (∀ s : State, s.phase = .idle → s.port = [] → step s = .next s)

/-! ## The register protocol engine and the cycle -/

/-- `RREG a`: one read transaction; with a data byte no register is written; a failure raises `BusError` in whatever the
block is doing: in a cycle `err` and `M_ABORT`, in the identity check `boot_err` and `B_RELEASE`, in `IDLE` the response
(R120, R241, R249; the raise outside a cycle is log entry 13). -/
def Obligations.RregMakesOneRead : Prop :=
  ∀ (a : Byte) (s : State), s.phase ≠ .dead →
    ((∃ b, nextXferAnswer s = .data b) → exec (.rreg a) s = .next (afterRead a s)) ∧
    (nextXferAnswer s = .err ∨ nextXferAnswer s = .noData →
      (s.phase.inCycle = true →
        exec (.rreg a) s = .next { afterRead a s with err := ⟨.busError, 0x00⟩, phase := .mAbort }) ∧
      (s.phase ∈ [.bSelect, .bWait, .bReadId, .bRelease] →
        exec (.rreg a) s =
          .next { afterRead a s with ident := .failed, bootErr := some ⟨.busError, 0x00⟩, phase := .bRelease }) ∧
      (s.phase = .idle →
        exec (.rreg a) s =
          .next { afterRead a s with trace := s.trace ++ [.xfer a (nextXferAnswer s), .rsp 1 0 0x00] }))

/-- `WREG a, v`: one write transaction; with `Ack` no register is written; a failure raises `BusError` in whatever the
block is doing (R122, R241, R249; the raise outside a cycle is log entry 13). -/
def Obligations.WregMakesOneWrite : Prop :=
  ∀ (a v : Byte) (s : State), s.phase ≠ .dead →
    (nextSendAnswer s = .ack → exec (.wreg a v) s = .next (afterWrite a v s)) ∧
    (nextSendAnswer s = .err →
      (s.phase.inCycle = true →
        exec (.wreg a v) s = .next { afterWrite a v s with err := ⟨.busError, 0x00⟩, phase := .mAbort }) ∧
      (s.phase ∈ [.bSelect, .bWait, .bReadId, .bRelease] →
        exec (.wreg a v) s =
          .next { afterWrite a v s with ident := .failed, bootErr := some ⟨.busError, 0x00⟩, phase := .bRelease }) ∧
      (s.phase = .idle →
        exec (.wreg a v) s = .next { afterWrite a v s with trace := s.trace ++ [.send a v .err, .rsp 1 0 0x00] }))

/-- The step `M_POLL` (R125): ready, out of reads, again, bus failure. That `RREG.STATUS` does this in other phases too is
the model's choice, log entry 10. -/
def Obligations.PollStepChoosesSuccessor : Prop :=
  (∀ s : State, s.phase = .mPoll → step s = exec .rregStatus s) ∧
  (∀ s : State, s.phase ≠ .dead →
    (∀ b, nextXferAnswer s = .data b →
      (b.getLsbD 0 = false →
        exec .rregStatus s =
          .next { afterRead 0x00 s with statusByte := b, pollCnt := s.pollCnt + 1, phase := .mLatch }) ∧
      (b.getLsbD 0 = true → s.pollCnt + 1 = s.pollLimit →
        exec .rregStatus s = .next
          { afterRead 0x00 s with
            statusByte := b, pollCnt := s.pollCnt + 1, err := ⟨.timeoutError, 0x00⟩, phase := .mAbort }) ∧
      (b.getLsbD 0 = true → s.pollCnt + 1 ≠ s.pollLimit →
        exec .rregStatus s =
          .next { afterRead 0x00 s with statusByte := b, pollCnt := s.pollCnt + 1, phase := .mPoll })) ∧
    (nextXferAnswer s = .err ∨ nextXferAnswer s = .noData →
      exec .rregStatus s = .next { afterRead 0x00 s with err := ⟨.busError, 0x00⟩, phase := .mAbort }))

/-- The steps `M_READ_HI` (R146) and `M_READ_LO` (R147), and that the high byte is always read first: only a
`M_READ_HI` that got its byte leads to `M_READ_LO`. That `RREG.DATA_HI` and `RREG.DATA_LO` do this in other phases too is
the model's choice, log entry 10. -/
def Obligations.DataReadSteps : Prop :=
  (∀ s : State, s.phase = .mReadHi → step s = exec .rregDataHi s) ∧
  (∀ s : State, s.phase = .mReadLo → step s = exec .rregDataLo s) ∧
  (∀ s : State, s.phase ≠ .dead →
    (∀ b, nextXferAnswer s = .data b →
      exec .rregDataHi s = .next { afterRead 0x01 s with hi := b, phase := .mReadLo } ∧
      exec .rregDataLo s = .next { afterRead 0x02 s with lo := b, phase := .mRelease }) ∧
    (nextXferAnswer s = .err ∨ nextXferAnswer s = .noData →
      exec .rregDataHi s = .next { afterRead 0x01 s with err := ⟨.busError, 0x00⟩, phase := .mAbort } ∧
      exec .rregDataLo s = .next { afterRead 0x02 s with err := ⟨.busError, 0x00⟩, phase := .mAbort })) ∧
  (∀ s t : State, step s = .next t → t.phase = .mReadLo →
    s.phase = .mReadHi ∧ ∃ b, nextXferAnswer s = .data b ∧ t.hi = b)

/-- `WREG.CONFIG` is the step `M_CONFIG` with the frame's bits; the step itself sends `0x01 | mode | config_bits`
(R143, R94). That `WREG.CONFIG` does this in other phases too is the model's choice, log entry 10. -/
def Obligations.ConfigStepWritesOptions : Prop :=
  (∀ (fast temp heat : Bool) (s : State), s.phase ≠ .dead →
    (nextSendAnswer s = .ack → exec (.wregConfig fast temp heat) s = .next
      { afterWrite 0x03 (configFrameByte fast temp heat) s with pollCnt := 0, phase := .mPoll }) ∧
    (nextSendAnswer s = .err → exec (.wregConfig fast temp heat) s = .next
      { afterWrite 0x03 (configFrameByte fast temp heat) s with err := ⟨.busError, 0x00⟩, phase := .mAbort })) ∧
  (∀ s : State, s.phase = .mConfig →
    (nextSendAnswer s = .ack → step s = .next
      { afterWrite 0x03 (0x01 ||| (if s.cycle = .temperature then 0x10 else 0x00) ||| s.configBits) s with
        pollCnt := 0, phase := .mPoll }) ∧
    (nextSendAnswer s = .err → step s = .next
      { afterWrite 0x03 (0x01 ||| (if s.cycle = .temperature then 0x10 else 0x00) ||| s.configBits) s with
        err := ⟨.busError, 0x00⟩, phase := .mAbort }))

/-- The step `M_LATCH` writes `0x00` to DATA (R145, R98). That `WREG.DATA_ACK` does this in other phases too is the model's
choice, log entry 10. -/
def Obligations.LatchStepWritesZero : Prop :=
  (∀ s : State, s.phase = .mLatch → step s = exec .wregDataAck s) ∧
  (∀ s : State, s.phase ≠ .dead →
    (nextSendAnswer s = .ack → exec .wregDataAck s = .next { afterWrite 0x01 0x00 s with phase := .mReadHi }) ∧
    (nextSendAnswer s = .err →
      exec .wregDataAck s = .next { afterWrite 0x01 0x00 s with err := ⟨.busError, 0x00⟩, phase := .mAbort }))

/-- The steps of a cycle that make no bus request and assemble nothing: `M_SELECT`, `M_WAIT` (R141, R142; that the wait
ends within its step is log entry 3). -/
def Obligations.SelectAndWakeSteps : Prop :=
  (∀ s : State, s.phase = .mSelect →
    step s = .next { s with trace := s.trace ++ [.pin 0], cs := 0, phase := .mWait }) ∧
  (∀ s : State, s.phase = .mWait → step s = .next { s with trace := s.trace ++ [.wait 15], phase := .mConfig })

/-- The step `M_RELEASE`: the pin is released and the sample assembled (R148). -/
def Obligations.ReleaseStepAssemblesSample : Prop :=
  (∀ s : State, s.phase = .mRelease → step s = .next
    { s with
      trace := s.trace ++ [.pin 1], cs := 1, raw16 := s.lo.zeroExtend 16 ||| (s.hi.zeroExtend 16 <<< 8),
      phase := .mCompute }) ∧
  assembleSample 0x19 0x00 = 0x1900 ∧ (assembleSample 0x19 0x00).toNat = 6400

/-- The step `M_ABORT`: the pin is released before the error is reported (R250). -/
def Obligations.AbortStepReleasesThenReports : Prop :=
  ∀ s : State, s.phase = .mAbort → ∃ t, step s = .next t ∧
    t = { s with
      trace := s.trace ++ [.pin 1, .rsp (ErrCode.code s.err.code) 0 0x00], cs := 1, phase := .idle } ∧
    (s.err.code = .busError → ErrCode.code s.err.code = 1) ∧
    (s.err.code = .timeoutError → ErrCode.code s.err.code = 2)

/-- `POLL`, the three outcomes of the ready-poll loop (R126): the k-th read is the first that finds the chip ready; the
k-th read fails; all of the first `POLL_LIMIT` reads find it busy. That `POLL` starts in any phase but `DEAD` is the
model's choice, log entry 12. -/
def Obligations.PollLoopOutcomes : Prop :=
  ∀ (s : State) (busy : List Byte), s.phase ≠ .dead → (∀ b ∈ busy, b.getLsbD 0 = true) →
    (∀ k b, busy[k]? = some b → xferAnswerAt s k = .data b) →
    (∀ ready : Byte, busy.length < s.pollLimit → ready.getLsbD 0 = false →
      xferAnswerAt s busy.length = .data ready →
      exec .poll s = .next
        { s with
          trace := s.trace ++ busy.map (fun b => .xfer 0x00 (.data b)) ++ [.xfer 0x00 (.data ready)]
          statusByte := ready
          pollCnt := busy.length + 1
          phase := .mLatch
          xferAnswers := s.xferAnswers.drop (busy.length + 1)
          readCount := s.readCount + (busy.length + 1) }) ∧
    (∀ failure : XferAnswer, busy.length < s.pollLimit → (failure = .err ∨ failure = .noData) →
      xferAnswerAt s busy.length = failure →
      exec .poll s = .next
        { s with
          trace := s.trace ++ busy.map (fun b => .xfer 0x00 (.data b)) ++ [.xfer 0x00 failure]
          statusByte := busy.getLastD s.statusByte
          pollCnt := busy.length
          err := ⟨.busError, 0x00⟩
          phase := .mAbort
          xferAnswers := s.xferAnswers.drop (busy.length + 1)
          readCount := s.readCount + (busy.length + 1) }) ∧
    (busy.length = s.pollLimit → 1 ≤ s.pollLimit →
      exec .poll s = .next
        { s with
          trace := s.trace ++ busy.map (fun b => .xfer 0x00 (.data b))
          statusByte := busy.getLastD s.statusByte
          pollCnt := busy.length
          err := ⟨.timeoutError, 0x00⟩
          phase := .mAbort
          xferAnswers := s.xferAnswers.drop busy.length
          readCount := s.readCount + busy.length })

/-- A successful measurement cycle: its whole trace, its sample, and everything else as before (R150, R140). That the
operation starts in any phase but `DEAD` is the model's choice, log entry 12; that it writes its operand into the register
`cycle` is log entry 23. -/
def Obligations.SuccessfulCycle : Prop :=
  ∀ (c : CycleKind) (s : State) (busy : List Byte) (ready hi lo : Byte), s.phase ≠ .dead →
    GoodCycle s busy ready hi lo →
    exec (measureInstr c) s = .next
      { s with
        cycle := c
        cs := 1
        pollCnt := busy.length + 1
        statusByte := ready
        hi := hi
        lo := lo
        raw16 := BitVec.ofNat 16 (256 * hi.toNat + lo.toNat)
        trace := s.trace ++ cycleTrace (configByte c s.configBits) busy ready hi lo
        phase := .mCompute
        xferAnswers := s.xferAnswers.drop (busy.length + 3)
        sendAnswers := s.sendAnswers.drop 2
        readCount := s.readCount + (busy.length + 3)
        writeCount := s.writeCount + 2 }

/-- Every measurement cycle ends with the pin released: it hands a sample on, or has reported `BusError` or
`TimeoutError` after releasing the pin; it makes at most `POLL_LIMIT` STATUS reads and 4 + `POLL_LIMIT` transactions
(R149, R151, R250, R126). The model's own in this: a failed operation includes `M_ABORT` with its response (log entry 11),
it starts in any phase but `DEAD` (log entry 12), and it always completes (log entry 3). -/
def Obligations.CycleAlwaysReleasesPin : Prop :=
  ∀ (c : CycleKind) (s : State), s.phase ≠ .dead → 1 ≤ s.pollLimit → ∃ t events,
    exec (measureInstr c) s = .next t ∧ t.cs = 1 ∧
    t.trace = s.trace ++ [.pin 0, .wait 15] ++ events ∧
    ((t.phase = .mCompute ∧ ∃ bus, events = bus ++ [.pin 1] ∧ bus.all Event.isBus = true) ∨
      (t.phase = .idle ∧ ∃ bus code, (code = 1 ∨ code = 2) ∧ events = bus ++ [.pin 1, .rsp code 0 0x00] ∧
        bus.all Event.isBus = true ∧ (code = 2 → bus.countP Event.isStatusRead = s.pollLimit))) ∧
    events.countP Event.isBus ≤ 4 + s.pollLimit ∧ events.countP Event.isStatusRead ≤ s.pollLimit

/-- A cycle by itself changes no Device Handle state: the registers it writes are its temporaries, `err` and `cs`
(R152). That the register `cycle` is among them is the model's choice, log entry 23; that the operation starts in any phase
but `DEAD` is log entry 12. -/
def Obligations.CycleLeavesDeviceHandle : Prop :=
  ∀ (c : CycleKind) (s t : State), exec (measureInstr c) s = .next t →
    t.configBits = s.configBits ∧ t.lastTemperature = s.lastTemperature ∧ t.ident = s.ident ∧
    t.bootErr = s.bootErr ∧ t.pinMode = s.pinMode ∧ t.result = s.result ∧ t.cmd = s.cmd ∧ t.unit = s.unit ∧
    t.idRaw = s.idRaw ∧ t.pollLimit = s.pollLimit ∧ t.port = s.port

/-- What a cycle does depends on no temporary an earlier command left, and not on the requested unit (R29, R226).
That it does not depend on the register `cycle` either is the model's choice, log entry 23; that the operation starts in
any phase but `DEAD` is log entry 12, and where it ends on a failure log entry 11. -/
def Obligations.CycleIgnoresLeftovers : Prop :=
  ∀ (c : CycleKind) (s s' t : State), s.phase ≠ .dead → 1 ≤ s.pollLimit →
    (∃ (u : TempUnit) (n : Nat) (b h l i : Byte) (r : Sample) (v : Binary64) (e : ErrInfo) (k : CycleKind),
      s' = { s with
        unit := u, pollCnt := n, statusByte := b, hi := h, lo := l, idRaw := i, raw16 := r, result := v, err := e,
        cycle := k }) →
    exec (measureInstr c) s = .next t →
    ∃ t', exec (measureInstr c) s' = .next t' ∧ t'.trace = t.trace ∧ t'.phase = t.phase ∧
      (t.phase = .mCompute → t'.raw16 = t.raw16)

/-! ## Compensation -/

/-- `CTEMP` (R172, R175): the Celsius value is stored whichever unit is asked for, and nothing else but `result` is
written. That `CTEMP` runs in phases other than `M_COMPUTE` is the model's choice, log entry 10. -/
def Obligations.CtempStoresCelsius : Prop :=
  (∀ (raw : Sample) (u : TempUnit) (s : State), s.phase ≠ .dead →
    exec (.ctemp raw u) s = .next
      { s with
        lastTemperature := some (F64.sub (F64.div (F64.toNum (raw.toNat / 4)) (F64.toNum 32)) (F64.toNum 50))
        result :=
          match u with
          | .celsius => F64.sub (F64.div (F64.toNum (raw.toNat / 4)) (F64.toNum 32)) (F64.toNum 50)
          | .fahrenheit =>
            F64.add
              (F64.div
                (F64.mul (F64.sub (F64.div (F64.toNum (raw.toNat / 4)) (F64.toNum 32)) (F64.toNum 50)) (F64.toNum 9))
                (F64.toNum 5))
              (F64.toNum 32) }) ∧
  celsius 0x1900 = 0 ∧ temperatureValue 0x1900 .fahrenheit = 0x4040000000000000

/-- `CHUM` (R176, R177): the formula with the constants as binary64 patterns; with no stored temperature it raises
`StaleCompensationError`. Where that error goes is the model's own, because the spec answers it at dispatch only (R244,
R251): in a cycle to `M_ABORT`, log entry 15; outside a cycle, log entry 13. That `CHUM` runs in phases other than `M_COMPUTE` is the model's choice, log entry 10. -/
def Obligations.ChumComputesHumidity : Prop :=
  (∀ (raw : Sample) (s : State), s.phase ≠ .dead →
    (∀ t, s.lastTemperature = some t → ∀ curve linear : Binary64,
      curve = F64.sub (F64.div (F64.toNum (raw.toNat / 16)) (F64.toNum 16)) (F64.toNum 24) →
      linear =
        F64.sub curve
          (F64.add (F64.add (F64.mul (F64.mul curve curve) 0xBF7018E757928E0D) (F64.mul curve 0x3FD9A6B50B0F27BB))
            0xC0132339C0EBEDFA) →
      exec (.chum raw) s = .next
        { s with
          result :=
            F64.add linear
              (F64.mul (F64.sub t (F64.toNum 30)) (F64.add (F64.mul linear 0x3F636A400FBA8827) 0x3FC941205BC01A37)) }) ∧
    (s.lastTemperature = none →
      (s.phase.inCycle = true →
        exec (.chum raw) s = .next { s with err := ⟨.staleCompensationError, 0x00⟩, phase := .mAbort }) ∧
      (s.phase ∈ [.bSelect, .bWait, .bReadId, .bRelease] →
        exec (.chum raw) s = .next
          { s with ident := .failed, bootErr := some ⟨.staleCompensationError, 0x00⟩, phase := .bRelease }) ∧
      (s.phase = .idle → exec (.chum raw) s = .next { s with trace := s.trace ++ [.rsp 4 0 0x00] }))) ∧
  humidity 0x1800 0x4039000000000000 = 0x400DEDFCD04AB0A8

/-- The Celsius value is exact: for every sample it is the rational number `(raw16 >> 2)/32 - 50` (R173). -/
def Obligations.CelsiusIsExact : Prop :=
  ∀ raw : Sample, F64.isFinite (celsius raw) = true ∧
    F64.toRat (celsius raw) = ((raw.toNat / 4 : Nat) : Rat) / 32 - 50

/-- The constants of R170 are the binary64 numbers nearest to the printed decimals (R171), and vectors of
spec/95_test_vectors.md: V40, V41, V53, V42, V64, V65, V69, V61. -/
def Obligations.CompensationVectors : Prop :=
  a0 = 0xC0132339C0EBEDFA ∧ a1 = 0x3FD9A6B50B0F27BB ∧ a2 = 0xBF7018E757928E0D ∧ q0 = 0x3FC941205BC01A37 ∧
  q1 = 0x3F636A400FBA8827 ∧
  celsius 0x0000 = 0xC049000000000000 ∧ celsius 0x0003 = 0xC049000000000000 ∧ celsius 0xFFFF = 0x407CDF8000000000 ∧
  fahrenheit (celsius 0x0004) = 0xC04CF8CCCCCCCCCC ∧ fahrenheit (celsius 0xFFFF) = 0x408AFC599999999A ∧
  humidity 0x0000 (celsius 0x0000) = 0xC035B9F7BA839670 ∧ humidity 0xFFFF (celsius 0xFFFF) = 0x40892028DAFC272A ∧
  humidity 0x6000 (celsius 0x2648) = 0x4050C42D63A51E91 ∧ humidity 0x180F (celsius 0x2580) = 0x400DEDFCD04AB0A8

/-! ## The identity check -/

/-- The step `B_READ_ID` (R193), with its examples. That `RREG.ID` does this in other phases too is the model's choice, log
entry 10. -/
def Obligations.ReadIdStepJudgesChip : Prop :=
  (∀ s : State, s.phase = .bReadId → step s = exec .rregId s) ∧
  (∀ s : State, s.phase ≠ .dead →
    (∀ b, nextXferAnswer s = .data b →
      (b &&& 0xF0 = 0x50 → exec .rregId s = .next { afterRead 0x11 s with idRaw := b, ident := .ready, phase := .bRelease }) ∧
      (b &&& 0xF0 ≠ 0x50 → exec .rregId s = .next
        { afterRead 0x11 s with
          idRaw := b, ident := .failed, bootErr := some ⟨.unrecognizedDeviceError, b⟩, phase := .bRelease })) ∧
    (nextXferAnswer s = .err ∨ nextXferAnswer s = .noData → exec .rregId s = .next
      { afterRead 0x11 s with ident := .failed, bootErr := some ⟨.busError, 0x00⟩, phase := .bRelease })) ∧
  (0x50 : Byte) &&& 0xF0 = 0x50 ∧ (0x5F : Byte) &&& 0xF0 = 0x50 ∧ (0x11 : Byte) &&& 0xF0 = 0x10 ∧
  (0x05 : Byte) &&& 0xF0 = 0x00

/-- The steps `B_SELECT` and `B_WAIT` (R191, R192); `set_pin_mode` is called by `B_SELECT` and by no other step,
and no step leads back to `B_SELECT`. That the wait of `B_WAIT` ends within its step is log entry 3. -/
def Obligations.BootSelectAndWake : Prop :=
  (∀ s : State, s.phase = .bSelect → step s = .next
    { s with
      trace := s.trace ++ [.mode .output, .pin 0], pinMode := .output, cs := 0, phase := .bWait }) ∧
  (∀ s : State, s.phase = .bWait → step s = .next { s with trace := s.trace ++ [.wait 15], phase := .bReadId }) ∧
  (∀ s t : State, step s = .next t → t.phase ≠ .bSelect ∧
    (s.phase ≠ .bSelect →
      t.pinMode = s.pinMode ∧ t.trace.countP (· == .mode .output) = s.trace.countP (· == .mode .output)))

/-- The step `B_RELEASE` (R194). -/
def Obligations.BootReleaseSignals : Prop :=
  ∀ s : State, s.phase = .bRelease →
    (s.ident = .ready → step s = .next
      { s with trace := s.trace ++ [.pin 1, .ident .ready], cs := 1, phase := .idle }) ∧
    (s.ident ≠ .ready → step s = .next
      { s with trace := s.trace ++ [.pin 1, .ident (.failed s.bootErr)], cs := 1, phase := .dead })

/-- `IDENT`: the three boot traces and their end states, everything else as before (R197, R190); from `B_SELECT` the
sequencer's four steps are `IDENT`. That `IDENT` starts in any phase but `DEAD` is the model's choice, log entry 12. -/
def Obligations.IdentBootTraces : Prop :=
  (∀ s : State, s.phase = .bSelect → run 4 s = exec .ident s) ∧
  ∀ s : State, s.phase ≠ .dead →
    (∀ b, nextXferAnswer s = .data b → b &&& 0xF0 = 0x50 → exec .ident s = .next
      { s with
        trace := s.trace ++ [.mode .output, .pin 0, .wait 15, .xfer 0x11 (.data b), .pin 1, .ident .ready]
        pinMode := .output, cs := 1, idRaw := b, ident := .ready, phase := .idle
        xferAnswers := s.xferAnswers.tail, readCount := s.readCount + 1 }) ∧
    (∀ b, nextXferAnswer s = .data b → b &&& 0xF0 ≠ 0x50 → exec .ident s = .next
      { s with
        trace := s.trace ++ [.mode .output, .pin 0, .wait 15, .xfer 0x11 (.data b), .pin 1,
          .ident (.failed (some ⟨.unrecognizedDeviceError, b⟩))]
        pinMode := .output, cs := 1, idRaw := b, ident := .failed
        bootErr := some ⟨.unrecognizedDeviceError, b⟩, phase := .dead
        xferAnswers := s.xferAnswers.tail, readCount := s.readCount + 1 }) ∧
    (nextXferAnswer s = .err ∨ nextXferAnswer s = .noData → exec .ident s = .next
      { s with
        trace := s.trace ++ [.mode .output, .pin 0, .wait 15, .xfer 0x11 (nextXferAnswer s), .pin 1,
          .ident (.failed (some ⟨.busError, 0x00⟩))]
        pinMode := .output, cs := 1, ident := .failed, bootErr := some ⟨.busError, 0x00⟩, phase := .dead
        xferAnswers := s.xferAnswers.tail, readCount := s.readCount + 1 })

/-- `IDENT` writes neither `config_bits` nor `last_temperature` and nothing to the chip; its only bus transaction is one
read (R199). -/
def Obligations.IdentOnlyReads : Prop :=
  ∀ s t : State, exec .ident s = .next t →
    t.configBits = s.configBits ∧ t.lastTemperature = s.lastTemperature ∧
    t.sendAnswers = s.sendAnswers ∧ t.writeCount = s.writeCount ∧
    ∃ events, t.trace = s.trace ++ events ∧ events.filter Event.isBus = [.xfer 0x11 (nextXferAnswer s)]

/-- The identity check runs once: no step leads to `B_SELECT`, no step leads from outside the check into it, and `DEAD`
is reached from `B_RELEASE` alone (R196, R24). -/
def Obligations.IdentityCheckRunsOnce : Prop :=
  ∀ s t : State, step s = .next t →
    t.phase ≠ .bSelect ∧
    (t.phase ∈ [.bWait, .bReadId, .bRelease] → s.phase ∈ [.bSelect, .bWait, .bReadId]) ∧
    (t.phase = .dead → s.phase = .bRelease)

/-! ## Who writes what -/

/-- `config_bits` is written by the four toggles alone, `ident` by `B_READ_ID` alone (R21, R22, R233). -/
def Obligations.ControlRegistersHaveOneWriter : Prop :=
  ∀ s t : State, step s = .next t →
    (t.configBits ≠ s.configBits →
      s.phase = .idle ∧ ∃ w rest, s.port = w :: rest ∧ w ∈ [(0x30 : Byte), 0x31, 0x40, 0x41]) ∧
    (t.ident ≠ s.ident → s.phase = .bReadId) ∧
    (t.bootErr ≠ s.bootErr → s.phase = .bReadId) ∧
    (t.cs ≠ s.cs → s.phase ∈ [.bSelect, .bRelease, .mSelect, .mRelease, .mAbort])

/-- `last_temperature` is written by `CTEMP` alone, with the Celsius value whatever the unit, in the step after a
successful temperature cycle; no step sets it back to `none` (R175, R27). -/
def Obligations.OnlyCtempStoresTemperature : Prop :=
  (∀ (raw : Sample) (u : TempUnit) (s t : State), exec (.ctemp raw u) s = .next t →
    t.lastTemperature = some (celsius raw)) ∧
  (∀ (i : Instr) (s t : State), exec i s = .next t → t.lastTemperature ≠ s.lastTemperature → ∃ raw u, i = .ctemp raw u) ∧
  (∀ s t : State, step s = .next t → t.lastTemperature ≠ s.lastTemperature →
    s.phase = .mCompute ∧ s.cycle = .temperature ∧ t.lastTemperature = some (celsius s.raw16)) ∧
  (∀ s t : State, step s = .next t → s.lastTemperature ≠ none → t.lastTemperature ≠ none)

/-- A step adds events to the trace and takes none away; it makes at most one bus transaction, and no failed
transaction is made again by the step that follows it (R72, R121, R123, R248). -/
def Obligations.StepMakesAtMostOneTransaction : Prop :=
  (∀ s t : State, step s = .next t → ∃ events, t.trace = s.trace ++ events ∧ events.length ≤ 2 ∧
    events.countP Event.isBus ≤ 1 ∧
    t.readCount + t.writeCount = s.readCount + s.writeCount + events.countP Event.isBus) ∧
  (∀ s t u : State, step s = .next t → step t = .next u →
    (∃ e, t.trace = s.trace ++ [e] ∧
      ((∃ a, e = .xfer a .err ∨ e = .xfer a .noData) ∨ ∃ a v, e = .send a v .err)) →
    u.trace.countP Event.isBus = t.trace.countP Event.isBus)

/-! ## Invariants -/

/-- The values at the release of reset that the spec gives (R37, R281). -/
def Obligations.ResetValues : Prop :=
  State.reset.lastTemperature = none ∧ State.reset.configBits = 0x00 ∧ State.reset.ident = .pending ∧
  State.reset.bootErr = none ∧ State.reset.phase = .bSelect ∧ State.reset.cs = 1 ∧ State.reset.pinMode = .unset ∧
  State.reset.trace = [] ∧ 1 ≤ State.reset.pollLimit

/-- The reset state meets both invariants, whatever the limit and whatever host and environment offer. -/
def Obligations.ResetMeetsInvariants : Prop :=
  (∀ (limit : Nat) (port : List Byte) (xfers : List XferAnswer) (sends : List SendAnswer), 1 ≤ limit →
    ControlInv (State.resetWith limit port xfers sends) ∧ TraceInv (State.resetWith limit port xfers sends)) ∧
  ControlInv State.reset ∧ TraceInv State.reset

/-- Every step keeps the control invariant (R38, R39, R40(a) to (c), R25, R225, R261). -/
def Obligations.StepKeepsControlInvariant : Prop :=
  ∀ s t : State, ControlInv s → step s = .next t → ControlInv t

/-- Every step keeps the access windows in order: after `Pin(0)`, one `Wait(15)` comes before any register access, and
bus requests stand only between the two pin writes (R124, R40(d)). The control invariant rules out a humidity cycle with
no stored temperature, the one state whose `M_ABORT` would stand outside a window. -/
def Obligations.StepKeepsAccessWindows : Prop :=
  ∀ s t : State, ControlInv s → window s.trace = s.phase.window → step s = .next t → window t.trace = t.phase.window

/-- Every step keeps commands and responses paired: one response per accepted command (R228, R302). -/
def Obligations.StepKeepsResponsesPaired : Prop :=
  ∀ s t : State, responsesPaired s → step s = .next t → responsesPaired t

/-- Every step keeps the bus requests to the frames the block may send (R61, R105, R123); the premise is R38. -/
def Obligations.StepKeepsFramesLegal : Prop :=
  ∀ s t : State, s.configBits &&& 0xDD = 0 → s.trace.all Event.legalFrame = true → step s = .next t →
    t.trace.all Event.legalFrame = true

/-- Every step keeps the rule that a temperature is stored exactly when an `RDT` command has been answered `OK`, so that
an `RDH` is stale exactly when none has (R229, R294). -/
def Obligations.StepKeepsStaleRule : Prop :=
  ∀ s t : State, ControlInv s → staleRule s → step s = .next t → staleRule t

/-- Every state of every run meets both invariants; a run never stops but in `DEAD` or at a reserved command word. The
model's own in this: waiting for a command is a step (log entry 2), and every request is answered and every wait ends (log
entry 3; R259 lists their contraries as stuck, R303 excludes them); `DEAD` is a fault (log entry 8), a reserved word a
refusal (log entry 9). -/
def Obligations.ReachableStatesAreSafe : Prop :=
  ∀ s : State, Reachable s → ControlInv s ∧ TraceInv s ∧
    ((∃ t, step s = .next t) ∨ s.phase = .dead ∨
      (s.phase = .idle ∧ ∃ w rest r, s.port = w :: rest ∧ decode .cmd8 [w] = .error r))

/-! ## Whole commands -/

/-- The steps of the sequencer are the measurement operation: from `M_SELECT`, so many steps give what `MEASURE.H` or
`MEASURE.T` gives (R140, R24). That a failed operation includes `M_ABORT` is log entry 11. -/
def Obligations.SequencerRefinesMeasure : Prop :=
  ∀ s : State, s.phase = .mSelect → 1 ≤ s.pollLimit →
    ∃ n, n ≤ s.pollLimit + 7 ∧ run n s = exec (measureInstr s.cycle) s

/-- A measurement command in progress responds within `POLL_LIMIT` + 8 steps, whatever the environment answers: one
response, no command accepted meanwhile, back in `IDLE` with the pin released; a failed command changes neither
`config_bits` nor `last_temperature` (R228, R126, R253, R220). That it always responds rests on log entry 3: every request
is answered and every wait ends, the fairness premise of R303. -/
def Obligations.CommandInProgressResponds : Prop :=
  ∀ s : State, ControlInv s → s.phase.inCycle = true →
    ∃ n t events code value, n ≤ s.pollLimit + 8 ∧ run n s = .next t ∧ t.phase = .idle ∧ t.cs = 1 ∧
      t.trace = s.trace ++ events ++ [.rsp code value 0x00] ∧
      events.countP Event.isRsp = 0 ∧ events.countP Event.isCmd = 0 ∧ t.port = s.port ∧
      (code = 0 ∨ code = 1 ∨ code = 2) ∧ t.configBits = s.configBits ∧ t.ident = s.ident ∧
      (code ≠ 0 → t.lastTemperature = s.lastTemperature)

/-- A whole successful `RDT.C` or `RDT.F`, step by step from the command port to the response (R222, R226, R227). The
port is log entry 2; that the wait ends is log entry 3. -/
def Obligations.TemperatureCommandEndToEnd : Prop :=
  ∀ (u : TempUnit) (w : Byte) (s : State) (rest busy : List Byte) (ready hi lo : Byte),
    w = (match u with | .celsius => 0x10 | .fahrenheit => 0x11) →
    s.phase = .idle → s.port = w :: rest → GoodCycle s busy ready hi lo →
    ∃ n t, run n s = .next t ∧ t.phase = .idle ∧ t.port = rest ∧ t.cs = 1 ∧
      t.lastTemperature = some (celsius (BitVec.ofNat 16 (256 * hi.toNat + lo.toNat))) ∧
      t.configBits = s.configBits ∧
      t.trace = s.trace ++ [.cmd w] ++ cycleTrace (configByte .temperature s.configBits) busy ready hi lo
        ++ [.rsp 0 (temperatureValue (BitVec.ofNat 16 (256 * hi.toNat + lo.toNat)) u) 0x00]

/-- A whole successful `RDH` with a stored temperature, step by step from the command port to the response (R223,
R227). The port is log entry 2; that the wait ends is log entry 3. -/
def Obligations.HumidityCommandEndToEnd : Prop :=
  ∀ (stored : Binary64) (s : State) (rest busy : List Byte) (ready hi lo : Byte),
    s.lastTemperature = some stored → s.phase = .idle → s.port = 0x20 :: rest → GoodCycle s busy ready hi lo →
    ∃ n t, run n s = .next t ∧ t.phase = .idle ∧ t.port = rest ∧ t.cs = 1 ∧
      t.lastTemperature = some stored ∧ t.configBits = s.configBits ∧
      t.trace = s.trace ++ [.cmd 0x20] ++ cycleTrace (configByte .humidity s.configBits) busy ready hi lo
        ++ [.rsp 0 (humidity (BitVec.ofNat 16 (256 * hi.toNat + lo.toNat)) stored) 0x00]
end

