-- ==== Sys2Proof/Laws/Float64.lean ====
section
/-! SUPPORT. The rounding of `NUM`: where an exact result has at most 53 significant bits, it is packed unchanged. -/

namespace Sys2Proof.Machine.F64

/-- The fields of a packed number whose magnitude bits are `r`. -/
theorem fields_ofNat (negative : Bool) (r : Nat) (h : r < 2 ^ 63) :
    expField (BitVec.ofNat 64 ((if negative then 2 ^ 63 else 0) + r)) = r / 2 ^ 52 ∧
    fraction (BitVec.ofNat 64 ((if negative then 2 ^ 63 else 0) + r)) = r % 2 ^ 52 ∧
    sign (BitVec.ofNat 64 ((if negative then 2 ^ 63 else 0) + r)) = negative := by
  have hlt : (if negative then 2 ^ 63 else 0) + r < 2 ^ 64 := by
    cases negative <;> simp only [Bool.false_eq_true, if_false, if_true] <;> omega
  refine ⟨?_, ?_, ?_⟩
  · rw [expField, BitVec.toNat_ofNat, Nat.mod_eq_of_lt hlt]
    cases negative <;> simp only [Bool.false_eq_true, if_false, if_true] <;> omega
  · rw [fraction, BitVec.toNat_ofNat, Nat.mod_eq_of_lt hlt]
    cases negative <;> simp only [Bool.false_eq_true, if_false, if_true] <;> omega
  · rw [sign, BitVec.msb_eq_decide, BitVec.toNat_ofNat, Nat.mod_eq_of_lt hlt]
    cases negative <;> simp
    all_goals omega

/-- A quotient that is a whole number with at most 53 significant bits is packed without rounding. -/
theorem pack_exact (negative : Bool) (k d : Nat) (hd : 0 < d) (short : 2 ^ (Nat.log2 k - 52) ∣ k) (range : Nat.log2 k < 2098) :
    isFinite (pack negative (k * d) d) = true ∧ magnitude (pack negative (k * d) d) = k ∧
      sign (pack negative (k * d) d) = negative := by
  obtain ⟨f, hf⟩ := short
  have hq : k * d / d = k := Nat.mul_div_cancel k hd
  have he : excess (k * d) d = Nat.log2 k - 52 := by rw [excess, hq]
  generalize hE : Nat.log2 k - 52 = e at *
  have hpos : 0 < 2 ^ e := Nat.two_pow_pos e
  have heb : e ≤ 2045 := by omega
  have hround : roundDiv (k * d) (d * 2 ^ e) = f := by
    have h1 : k * d = d * 2 ^ e * f := by rw [hf]; ring
    have h2 : 0 < d * 2 ^ e := Nat.mul_pos hd hpos
    rw [roundDiv, h1, Nat.mul_mod_right, Nat.mul_div_cancel_left _ h2]
    simp [h2]
  have hlog : k ≠ 0 → 2 ^ Nat.log2 k ≤ k ∧ k < 2 ^ (Nat.log2 k + 1) := fun h =>
    ⟨Nat.log2_self_le h, Nat.lt_log2_self⟩
  have hfb : f < 2 ^ 53 := by
    by_cases h0 : k = 0
    · have : f = 0 := by
        rcases Nat.mul_eq_zero.mp (hf.symm.trans h0) with h | h <;> omega
      omega
    · have h1 := (hlog h0).2
      have h3 : 2 ^ (Nat.log2 k + 1) ≤ 2 ^ (e + 53) := Nat.pow_le_pow_right (by omega) (by omega)
      rw [Nat.pow_add 2 e] at h3
      have h4 : 2 ^ e * f < 2 ^ e * 2 ^ 53 := by rw [← hf]; exact Nat.lt_of_lt_of_le h1 h3
      exact Nat.lt_of_mul_lt_mul_left h4
  have hfl : 0 < e → 2 ^ 52 ≤ f := by
    intro hpe
    have h0 : k ≠ 0 := by rintro rfl; simp at hE; omega
    have h1 := (hlog h0).1
    have h3 : 2 ^ Nat.log2 k = 2 ^ e * 2 ^ 52 := by rw [← Nat.pow_add]; congr 1; omega
    rw [h3, hf] at h1
    exact Nat.le_of_mul_le_mul_left h1 hpos
  have hbits : roundBits (k * d) d = e * 2 ^ 52 + f := by
    rw [roundBits, he, hround]
    exact Nat.min_eq_left (by clear hround he hq hlog hfl hf hE range hpos; omega)
  have hfields := fields_ofNat negative (e * 2 ^ 52 + f) (by omega)
  rw [pack, hbits]
  refine ⟨?_, ?_, hfields.2.2⟩
  · rw [isFinite, hfields.1]; simp; omega
  · rw [magnitude, hfields.1, hfields.2.1]
    by_cases hn : f < 2 ^ 52
    · have : e = 0 := by
        by_contra h; have := hfl (by omega); omega
      subst this
      rw [if_pos (by omega), hf]; omega
    · have h1 : (e * 2 ^ 52 + f) / 2 ^ 52 = e + 1 := by omega
      have h2 : 2 ^ 52 + (e * 2 ^ 52 + f) % 2 ^ 52 = f := by omega
      rw [h1, if_neg (by omega), h2, hf, Nat.add_sub_cancel, Nat.mul_comm]
/-- The logarithm of a number shifted left. -/
theorem log2_mul_pow (n j : Nat) (h : n ≠ 0) : Nat.log2 (n * 2 ^ j) = Nat.log2 n + j := by
  rw [Nat.log2_eq_iff (by positivity)]
  have := Nat.log2_self_le h
  have h2 := @Nat.lt_log2_self n
  constructor
  · rw [pow_add]; exact Nat.mul_le_mul_right _ this
  · rw [show n.log2 + j + 1 = (n.log2 + 1) + j by omega, pow_add]; exact Nat.mul_lt_mul_of_pos_right h2 (by positivity)

/-- A number of at most 53 bits, shifted left, is packed without rounding. -/
theorem short_shifted (n j : Nat) (h : n < 2 ^ 53) (hj : j ≤ 2000) : 
    2 ^ (Nat.log2 (n * 2 ^ j) - 52) ∣ n * 2 ^ j ∧ Nat.log2 (n * 2 ^ j) < 2098 := by
  by_cases h0 : n = 0
  · subst h0; simp
  · rw [log2_mul_pow n j h0]
    have : Nat.log2 n < 53 := (Nat.log2_lt h0).mpr h
    exact ⟨Dvd.dvd.mul_left (Nat.pow_dvd_pow 2 (by omega)) n, by omega⟩

/-- The conversion of an unsigned integer is exact below 2^53 (R14). -/
theorem toNum_exact (n : Nat) (h : n < 2 ^ 53) :
    isFinite (toNum n) = true ∧ magnitude (toNum n) = n * one ∧ sign (toNum n) = false := by
  have := short_shifted n 1074 h (by omega)
  have e := pack_exact false (n * one) 1 (by omega) this.1 this.2
  rw [Nat.mul_one] at e
  exact e

/-- A finite number is neither a NaN nor an infinity. -/
theorem isFinite_not (x : Binary64) (h : isFinite x = true) : isNaN x = false ∧ isInf x = false := by
  simp only [isFinite, bne_iff_ne, ne_eq] at h
  simp [isNaN, isInf, h]

/-- The quotient of finite numbers, the divisor not zero. -/
theorem div_finite (a b : Binary64) (ha : isFinite a = true) (hb : isFinite b = true) (hz : magnitude b ≠ 0) :
    div a b = pack (sign a != sign b) (magnitude a * one) (magnitude b) := by
  simp [div, isFinite_not a ha, isFinite_not b hb, hz]

end Sys2Proof.Machine.F64
end

