-- ==== Sys2Proof/Laws/State.lean ====
section
/-! SUPPORT. One lemma per field per update of the state: no later proof unfolds a record update. -/

namespace Sys2Proof.Machine

@[simp] theorem emit_configBits (e : Event) (s : State) : (emit e s).configBits = s.configBits := rfl
@[simp] theorem emit_lastTemperature (e : Event) (s : State) : (emit e s).lastTemperature = s.lastTemperature := rfl
@[simp] theorem emit_ident (e : Event) (s : State) : (emit e s).ident = s.ident := rfl
@[simp] theorem emit_bootErr (e : Event) (s : State) : (emit e s).bootErr = s.bootErr := rfl
@[simp] theorem emit_phase (e : Event) (s : State) : (emit e s).phase = s.phase := rfl
@[simp] theorem emit_cs (e : Event) (s : State) : (emit e s).cs = s.cs := rfl
@[simp] theorem emit_pinMode (e : Event) (s : State) : (emit e s).pinMode = s.pinMode := rfl
@[simp] theorem emit_result (e : Event) (s : State) : (emit e s).result = s.result := rfl
@[simp] theorem emit_cmd (e : Event) (s : State) : (emit e s).cmd = s.cmd := rfl
@[simp] theorem emit_cycle (e : Event) (s : State) : (emit e s).cycle = s.cycle := rfl
@[simp] theorem emit_unit (e : Event) (s : State) : (emit e s).unit = s.unit := rfl
@[simp] theorem emit_pollCnt (e : Event) (s : State) : (emit e s).pollCnt = s.pollCnt := rfl
@[simp] theorem emit_statusByte (e : Event) (s : State) : (emit e s).statusByte = s.statusByte := rfl
@[simp] theorem emit_hi (e : Event) (s : State) : (emit e s).hi = s.hi := rfl
@[simp] theorem emit_lo (e : Event) (s : State) : (emit e s).lo = s.lo := rfl
@[simp] theorem emit_raw16 (e : Event) (s : State) : (emit e s).raw16 = s.raw16 := rfl
@[simp] theorem emit_idRaw (e : Event) (s : State) : (emit e s).idRaw = s.idRaw := rfl
@[simp] theorem emit_err (e : Event) (s : State) : (emit e s).err = s.err := rfl
@[simp] theorem emit_trace (e : Event) (s : State) : (emit e s).trace = s.trace ++ [e] := rfl
@[simp] theorem emit_pollLimit (e : Event) (s : State) : (emit e s).pollLimit = s.pollLimit := rfl
@[simp] theorem emit_port (e : Event) (s : State) : (emit e s).port = s.port := rfl
@[simp] theorem emit_xferAnswers (e : Event) (s : State) : (emit e s).xferAnswers = s.xferAnswers := rfl
@[simp] theorem emit_sendAnswers (e : Event) (s : State) : (emit e s).sendAnswers = s.sendAnswers := rfl
@[simp] theorem emit_readCount (e : Event) (s : State) : (emit e s).readCount = s.readCount := rfl
@[simp] theorem emit_writeCount (e : Event) (s : State) : (emit e s).writeCount = s.writeCount := rfl

@[simp] theorem goto_configBits (p : Phase) (s : State) : (goto p s).configBits = s.configBits := rfl
@[simp] theorem goto_lastTemperature (p : Phase) (s : State) : (goto p s).lastTemperature = s.lastTemperature := rfl
@[simp] theorem goto_ident (p : Phase) (s : State) : (goto p s).ident = s.ident := rfl
@[simp] theorem goto_bootErr (p : Phase) (s : State) : (goto p s).bootErr = s.bootErr := rfl
@[simp] theorem goto_phase (p : Phase) (s : State) : (goto p s).phase = p := rfl
@[simp] theorem goto_cs (p : Phase) (s : State) : (goto p s).cs = s.cs := rfl
@[simp] theorem goto_pinMode (p : Phase) (s : State) : (goto p s).pinMode = s.pinMode := rfl
@[simp] theorem goto_result (p : Phase) (s : State) : (goto p s).result = s.result := rfl
@[simp] theorem goto_cmd (p : Phase) (s : State) : (goto p s).cmd = s.cmd := rfl
@[simp] theorem goto_cycle (p : Phase) (s : State) : (goto p s).cycle = s.cycle := rfl
@[simp] theorem goto_unit (p : Phase) (s : State) : (goto p s).unit = s.unit := rfl
@[simp] theorem goto_pollCnt (p : Phase) (s : State) : (goto p s).pollCnt = s.pollCnt := rfl
@[simp] theorem goto_statusByte (p : Phase) (s : State) : (goto p s).statusByte = s.statusByte := rfl
@[simp] theorem goto_hi (p : Phase) (s : State) : (goto p s).hi = s.hi := rfl
@[simp] theorem goto_lo (p : Phase) (s : State) : (goto p s).lo = s.lo := rfl
@[simp] theorem goto_raw16 (p : Phase) (s : State) : (goto p s).raw16 = s.raw16 := rfl
@[simp] theorem goto_idRaw (p : Phase) (s : State) : (goto p s).idRaw = s.idRaw := rfl
@[simp] theorem goto_err (p : Phase) (s : State) : (goto p s).err = s.err := rfl
@[simp] theorem goto_trace (p : Phase) (s : State) : (goto p s).trace = s.trace := rfl
@[simp] theorem goto_pollLimit (p : Phase) (s : State) : (goto p s).pollLimit = s.pollLimit := rfl
@[simp] theorem goto_port (p : Phase) (s : State) : (goto p s).port = s.port := rfl
@[simp] theorem goto_xferAnswers (p : Phase) (s : State) : (goto p s).xferAnswers = s.xferAnswers := rfl
@[simp] theorem goto_sendAnswers (p : Phase) (s : State) : (goto p s).sendAnswers = s.sendAnswers := rfl
@[simp] theorem goto_readCount (p : Phase) (s : State) : (goto p s).readCount = s.readCount := rfl
@[simp] theorem goto_writeCount (p : Phase) (s : State) : (goto p s).writeCount = s.writeCount := rfl

@[simp] theorem pinModeOutput_configBits (s : State) : (pinModeOutput s).configBits = s.configBits := rfl
@[simp] theorem pinModeOutput_lastTemperature (s : State) : (pinModeOutput s).lastTemperature = s.lastTemperature := rfl
@[simp] theorem pinModeOutput_ident (s : State) : (pinModeOutput s).ident = s.ident := rfl
@[simp] theorem pinModeOutput_bootErr (s : State) : (pinModeOutput s).bootErr = s.bootErr := rfl
@[simp] theorem pinModeOutput_phase (s : State) : (pinModeOutput s).phase = s.phase := rfl
@[simp] theorem pinModeOutput_cs (s : State) : (pinModeOutput s).cs = s.cs := rfl
@[simp] theorem pinModeOutput_pinMode (s : State) : (pinModeOutput s).pinMode = .output := rfl
@[simp] theorem pinModeOutput_result (s : State) : (pinModeOutput s).result = s.result := rfl
@[simp] theorem pinModeOutput_cmd (s : State) : (pinModeOutput s).cmd = s.cmd := rfl
@[simp] theorem pinModeOutput_cycle (s : State) : (pinModeOutput s).cycle = s.cycle := rfl
@[simp] theorem pinModeOutput_unit (s : State) : (pinModeOutput s).unit = s.unit := rfl
@[simp] theorem pinModeOutput_pollCnt (s : State) : (pinModeOutput s).pollCnt = s.pollCnt := rfl
@[simp] theorem pinModeOutput_statusByte (s : State) : (pinModeOutput s).statusByte = s.statusByte := rfl
@[simp] theorem pinModeOutput_hi (s : State) : (pinModeOutput s).hi = s.hi := rfl
@[simp] theorem pinModeOutput_lo (s : State) : (pinModeOutput s).lo = s.lo := rfl
@[simp] theorem pinModeOutput_raw16 (s : State) : (pinModeOutput s).raw16 = s.raw16 := rfl
@[simp] theorem pinModeOutput_idRaw (s : State) : (pinModeOutput s).idRaw = s.idRaw := rfl
@[simp] theorem pinModeOutput_err (s : State) : (pinModeOutput s).err = s.err := rfl
@[simp] theorem pinModeOutput_trace (s : State) : (pinModeOutput s).trace = s.trace ++ [.mode .output] := rfl
@[simp] theorem pinModeOutput_pollLimit (s : State) : (pinModeOutput s).pollLimit = s.pollLimit := rfl
@[simp] theorem pinModeOutput_port (s : State) : (pinModeOutput s).port = s.port := rfl
@[simp] theorem pinModeOutput_xferAnswers (s : State) : (pinModeOutput s).xferAnswers = s.xferAnswers := rfl
@[simp] theorem pinModeOutput_sendAnswers (s : State) : (pinModeOutput s).sendAnswers = s.sendAnswers := rfl
@[simp] theorem pinModeOutput_readCount (s : State) : (pinModeOutput s).readCount = s.readCount := rfl
@[simp] theorem pinModeOutput_writeCount (s : State) : (pinModeOutput s).writeCount = s.writeCount := rfl

@[simp] theorem pinWrite_configBits (level : BitVec 1) (s : State) : (pinWrite level s).configBits = s.configBits := rfl
@[simp] theorem pinWrite_lastTemperature (level : BitVec 1) (s : State) : (pinWrite level s).lastTemperature = s.lastTemperature := rfl
@[simp] theorem pinWrite_ident (level : BitVec 1) (s : State) : (pinWrite level s).ident = s.ident := rfl
@[simp] theorem pinWrite_bootErr (level : BitVec 1) (s : State) : (pinWrite level s).bootErr = s.bootErr := rfl
@[simp] theorem pinWrite_phase (level : BitVec 1) (s : State) : (pinWrite level s).phase = s.phase := rfl
@[simp] theorem pinWrite_cs (level : BitVec 1) (s : State) : (pinWrite level s).cs = level := rfl
@[simp] theorem pinWrite_pinMode (level : BitVec 1) (s : State) : (pinWrite level s).pinMode = s.pinMode := rfl
@[simp] theorem pinWrite_result (level : BitVec 1) (s : State) : (pinWrite level s).result = s.result := rfl
@[simp] theorem pinWrite_cmd (level : BitVec 1) (s : State) : (pinWrite level s).cmd = s.cmd := rfl
@[simp] theorem pinWrite_cycle (level : BitVec 1) (s : State) : (pinWrite level s).cycle = s.cycle := rfl
@[simp] theorem pinWrite_unit (level : BitVec 1) (s : State) : (pinWrite level s).unit = s.unit := rfl
@[simp] theorem pinWrite_pollCnt (level : BitVec 1) (s : State) : (pinWrite level s).pollCnt = s.pollCnt := rfl
@[simp] theorem pinWrite_statusByte (level : BitVec 1) (s : State) : (pinWrite level s).statusByte = s.statusByte := rfl
@[simp] theorem pinWrite_hi (level : BitVec 1) (s : State) : (pinWrite level s).hi = s.hi := rfl
@[simp] theorem pinWrite_lo (level : BitVec 1) (s : State) : (pinWrite level s).lo = s.lo := rfl
@[simp] theorem pinWrite_raw16 (level : BitVec 1) (s : State) : (pinWrite level s).raw16 = s.raw16 := rfl
@[simp] theorem pinWrite_idRaw (level : BitVec 1) (s : State) : (pinWrite level s).idRaw = s.idRaw := rfl
@[simp] theorem pinWrite_err (level : BitVec 1) (s : State) : (pinWrite level s).err = s.err := rfl
@[simp] theorem pinWrite_trace (level : BitVec 1) (s : State) : (pinWrite level s).trace = s.trace ++ [.pin level] := rfl
@[simp] theorem pinWrite_pollLimit (level : BitVec 1) (s : State) : (pinWrite level s).pollLimit = s.pollLimit := rfl
@[simp] theorem pinWrite_port (level : BitVec 1) (s : State) : (pinWrite level s).port = s.port := rfl
@[simp] theorem pinWrite_xferAnswers (level : BitVec 1) (s : State) : (pinWrite level s).xferAnswers = s.xferAnswers := rfl
@[simp] theorem pinWrite_sendAnswers (level : BitVec 1) (s : State) : (pinWrite level s).sendAnswers = s.sendAnswers := rfl
@[simp] theorem pinWrite_readCount (level : BitVec 1) (s : State) : (pinWrite level s).readCount = s.readCount := rfl
@[simp] theorem pinWrite_writeCount (level : BitVec 1) (s : State) : (pinWrite level s).writeCount = s.writeCount := rfl

@[simp] theorem wakeWait_configBits (s : State) : (wakeWait s).configBits = s.configBits := rfl
@[simp] theorem wakeWait_lastTemperature (s : State) : (wakeWait s).lastTemperature = s.lastTemperature := rfl
@[simp] theorem wakeWait_ident (s : State) : (wakeWait s).ident = s.ident := rfl
@[simp] theorem wakeWait_bootErr (s : State) : (wakeWait s).bootErr = s.bootErr := rfl
@[simp] theorem wakeWait_phase (s : State) : (wakeWait s).phase = s.phase := rfl
@[simp] theorem wakeWait_cs (s : State) : (wakeWait s).cs = s.cs := rfl
@[simp] theorem wakeWait_pinMode (s : State) : (wakeWait s).pinMode = s.pinMode := rfl
@[simp] theorem wakeWait_result (s : State) : (wakeWait s).result = s.result := rfl
@[simp] theorem wakeWait_cmd (s : State) : (wakeWait s).cmd = s.cmd := rfl
@[simp] theorem wakeWait_cycle (s : State) : (wakeWait s).cycle = s.cycle := rfl
@[simp] theorem wakeWait_unit (s : State) : (wakeWait s).unit = s.unit := rfl
@[simp] theorem wakeWait_pollCnt (s : State) : (wakeWait s).pollCnt = s.pollCnt := rfl
@[simp] theorem wakeWait_statusByte (s : State) : (wakeWait s).statusByte = s.statusByte := rfl
@[simp] theorem wakeWait_hi (s : State) : (wakeWait s).hi = s.hi := rfl
@[simp] theorem wakeWait_lo (s : State) : (wakeWait s).lo = s.lo := rfl
@[simp] theorem wakeWait_raw16 (s : State) : (wakeWait s).raw16 = s.raw16 := rfl
@[simp] theorem wakeWait_idRaw (s : State) : (wakeWait s).idRaw = s.idRaw := rfl
@[simp] theorem wakeWait_err (s : State) : (wakeWait s).err = s.err := rfl
@[simp] theorem wakeWait_trace (s : State) : (wakeWait s).trace = s.trace ++ [.wait 15] := rfl
@[simp] theorem wakeWait_pollLimit (s : State) : (wakeWait s).pollLimit = s.pollLimit := rfl
@[simp] theorem wakeWait_port (s : State) : (wakeWait s).port = s.port := rfl
@[simp] theorem wakeWait_xferAnswers (s : State) : (wakeWait s).xferAnswers = s.xferAnswers := rfl
@[simp] theorem wakeWait_sendAnswers (s : State) : (wakeWait s).sendAnswers = s.sendAnswers := rfl
@[simp] theorem wakeWait_readCount (s : State) : (wakeWait s).readCount = s.readCount := rfl
@[simp] theorem wakeWait_writeCount (s : State) : (wakeWait s).writeCount = s.writeCount := rfl

@[simp] theorem respond_configBits (code : RspCode) (value : Binary64) (info : Byte) (s : State) : (respond code value info s).configBits = s.configBits := rfl
@[simp] theorem respond_lastTemperature (code : RspCode) (value : Binary64) (info : Byte) (s : State) : (respond code value info s).lastTemperature = s.lastTemperature := rfl
@[simp] theorem respond_ident (code : RspCode) (value : Binary64) (info : Byte) (s : State) : (respond code value info s).ident = s.ident := rfl
@[simp] theorem respond_bootErr (code : RspCode) (value : Binary64) (info : Byte) (s : State) : (respond code value info s).bootErr = s.bootErr := rfl
@[simp] theorem respond_phase (code : RspCode) (value : Binary64) (info : Byte) (s : State) : (respond code value info s).phase = s.phase := rfl
@[simp] theorem respond_cs (code : RspCode) (value : Binary64) (info : Byte) (s : State) : (respond code value info s).cs = s.cs := rfl
@[simp] theorem respond_pinMode (code : RspCode) (value : Binary64) (info : Byte) (s : State) : (respond code value info s).pinMode = s.pinMode := rfl
@[simp] theorem respond_result (code : RspCode) (value : Binary64) (info : Byte) (s : State) : (respond code value info s).result = s.result := rfl
@[simp] theorem respond_cmd (code : RspCode) (value : Binary64) (info : Byte) (s : State) : (respond code value info s).cmd = s.cmd := rfl
@[simp] theorem respond_cycle (code : RspCode) (value : Binary64) (info : Byte) (s : State) : (respond code value info s).cycle = s.cycle := rfl
@[simp] theorem respond_unit (code : RspCode) (value : Binary64) (info : Byte) (s : State) : (respond code value info s).unit = s.unit := rfl
@[simp] theorem respond_pollCnt (code : RspCode) (value : Binary64) (info : Byte) (s : State) : (respond code value info s).pollCnt = s.pollCnt := rfl
@[simp] theorem respond_statusByte (code : RspCode) (value : Binary64) (info : Byte) (s : State) : (respond code value info s).statusByte = s.statusByte := rfl
@[simp] theorem respond_hi (code : RspCode) (value : Binary64) (info : Byte) (s : State) : (respond code value info s).hi = s.hi := rfl
@[simp] theorem respond_lo (code : RspCode) (value : Binary64) (info : Byte) (s : State) : (respond code value info s).lo = s.lo := rfl
@[simp] theorem respond_raw16 (code : RspCode) (value : Binary64) (info : Byte) (s : State) : (respond code value info s).raw16 = s.raw16 := rfl
@[simp] theorem respond_idRaw (code : RspCode) (value : Binary64) (info : Byte) (s : State) : (respond code value info s).idRaw = s.idRaw := rfl
@[simp] theorem respond_err (code : RspCode) (value : Binary64) (info : Byte) (s : State) : (respond code value info s).err = s.err := rfl
@[simp] theorem respond_trace (code : RspCode) (value : Binary64) (info : Byte) (s : State) : (respond code value info s).trace = s.trace ++ [.rsp code value info] := rfl
@[simp] theorem respond_pollLimit (code : RspCode) (value : Binary64) (info : Byte) (s : State) : (respond code value info s).pollLimit = s.pollLimit := rfl
@[simp] theorem respond_port (code : RspCode) (value : Binary64) (info : Byte) (s : State) : (respond code value info s).port = s.port := rfl
@[simp] theorem respond_xferAnswers (code : RspCode) (value : Binary64) (info : Byte) (s : State) : (respond code value info s).xferAnswers = s.xferAnswers := rfl
@[simp] theorem respond_sendAnswers (code : RspCode) (value : Binary64) (info : Byte) (s : State) : (respond code value info s).sendAnswers = s.sendAnswers := rfl
@[simp] theorem respond_readCount (code : RspCode) (value : Binary64) (info : Byte) (s : State) : (respond code value info s).readCount = s.readCount := rfl
@[simp] theorem respond_writeCount (code : RspCode) (value : Binary64) (info : Byte) (s : State) : (respond code value info s).writeCount = s.writeCount := rfl

@[simp] theorem busRead_configBits (a : Byte) (s : State) : (busRead a s).configBits = s.configBits := rfl
@[simp] theorem busRead_lastTemperature (a : Byte) (s : State) : (busRead a s).lastTemperature = s.lastTemperature := rfl
@[simp] theorem busRead_ident (a : Byte) (s : State) : (busRead a s).ident = s.ident := rfl
@[simp] theorem busRead_bootErr (a : Byte) (s : State) : (busRead a s).bootErr = s.bootErr := rfl
@[simp] theorem busRead_phase (a : Byte) (s : State) : (busRead a s).phase = s.phase := rfl
@[simp] theorem busRead_cs (a : Byte) (s : State) : (busRead a s).cs = s.cs := rfl
@[simp] theorem busRead_pinMode (a : Byte) (s : State) : (busRead a s).pinMode = s.pinMode := rfl
@[simp] theorem busRead_result (a : Byte) (s : State) : (busRead a s).result = s.result := rfl
@[simp] theorem busRead_cmd (a : Byte) (s : State) : (busRead a s).cmd = s.cmd := rfl
@[simp] theorem busRead_cycle (a : Byte) (s : State) : (busRead a s).cycle = s.cycle := rfl
@[simp] theorem busRead_unit (a : Byte) (s : State) : (busRead a s).unit = s.unit := rfl
@[simp] theorem busRead_pollCnt (a : Byte) (s : State) : (busRead a s).pollCnt = s.pollCnt := rfl
@[simp] theorem busRead_statusByte (a : Byte) (s : State) : (busRead a s).statusByte = s.statusByte := rfl
@[simp] theorem busRead_hi (a : Byte) (s : State) : (busRead a s).hi = s.hi := rfl
@[simp] theorem busRead_lo (a : Byte) (s : State) : (busRead a s).lo = s.lo := rfl
@[simp] theorem busRead_raw16 (a : Byte) (s : State) : (busRead a s).raw16 = s.raw16 := rfl
@[simp] theorem busRead_idRaw (a : Byte) (s : State) : (busRead a s).idRaw = s.idRaw := rfl
@[simp] theorem busRead_err (a : Byte) (s : State) : (busRead a s).err = s.err := rfl
@[simp] theorem busRead_trace (a : Byte) (s : State) : (busRead a s).trace = s.trace ++ [.xfer a (nextXferAnswer s)] := rfl
@[simp] theorem busRead_pollLimit (a : Byte) (s : State) : (busRead a s).pollLimit = s.pollLimit := rfl
@[simp] theorem busRead_port (a : Byte) (s : State) : (busRead a s).port = s.port := rfl
@[simp] theorem busRead_xferAnswers (a : Byte) (s : State) : (busRead a s).xferAnswers = s.xferAnswers.tail := rfl
@[simp] theorem busRead_sendAnswers (a : Byte) (s : State) : (busRead a s).sendAnswers = s.sendAnswers := rfl
@[simp] theorem busRead_readCount (a : Byte) (s : State) : (busRead a s).readCount = s.readCount + 1 := rfl
@[simp] theorem busRead_writeCount (a : Byte) (s : State) : (busRead a s).writeCount = s.writeCount := rfl

@[simp] theorem busWrite_configBits (a v : Byte) (s : State) : (busWrite a v s).configBits = s.configBits := rfl
@[simp] theorem busWrite_lastTemperature (a v : Byte) (s : State) : (busWrite a v s).lastTemperature = s.lastTemperature := rfl
@[simp] theorem busWrite_ident (a v : Byte) (s : State) : (busWrite a v s).ident = s.ident := rfl
@[simp] theorem busWrite_bootErr (a v : Byte) (s : State) : (busWrite a v s).bootErr = s.bootErr := rfl
@[simp] theorem busWrite_phase (a v : Byte) (s : State) : (busWrite a v s).phase = s.phase := rfl
@[simp] theorem busWrite_cs (a v : Byte) (s : State) : (busWrite a v s).cs = s.cs := rfl
@[simp] theorem busWrite_pinMode (a v : Byte) (s : State) : (busWrite a v s).pinMode = s.pinMode := rfl
@[simp] theorem busWrite_result (a v : Byte) (s : State) : (busWrite a v s).result = s.result := rfl
@[simp] theorem busWrite_cmd (a v : Byte) (s : State) : (busWrite a v s).cmd = s.cmd := rfl
@[simp] theorem busWrite_cycle (a v : Byte) (s : State) : (busWrite a v s).cycle = s.cycle := rfl
@[simp] theorem busWrite_unit (a v : Byte) (s : State) : (busWrite a v s).unit = s.unit := rfl
@[simp] theorem busWrite_pollCnt (a v : Byte) (s : State) : (busWrite a v s).pollCnt = s.pollCnt := rfl
@[simp] theorem busWrite_statusByte (a v : Byte) (s : State) : (busWrite a v s).statusByte = s.statusByte := rfl
@[simp] theorem busWrite_hi (a v : Byte) (s : State) : (busWrite a v s).hi = s.hi := rfl
@[simp] theorem busWrite_lo (a v : Byte) (s : State) : (busWrite a v s).lo = s.lo := rfl
@[simp] theorem busWrite_raw16 (a v : Byte) (s : State) : (busWrite a v s).raw16 = s.raw16 := rfl
@[simp] theorem busWrite_idRaw (a v : Byte) (s : State) : (busWrite a v s).idRaw = s.idRaw := rfl
@[simp] theorem busWrite_err (a v : Byte) (s : State) : (busWrite a v s).err = s.err := rfl
@[simp] theorem busWrite_trace (a v : Byte) (s : State) : (busWrite a v s).trace = s.trace ++ [.send a v (nextSendAnswer s)] := rfl
@[simp] theorem busWrite_pollLimit (a v : Byte) (s : State) : (busWrite a v s).pollLimit = s.pollLimit := rfl
@[simp] theorem busWrite_port (a v : Byte) (s : State) : (busWrite a v s).port = s.port := rfl
@[simp] theorem busWrite_xferAnswers (a v : Byte) (s : State) : (busWrite a v s).xferAnswers = s.xferAnswers := rfl
@[simp] theorem busWrite_sendAnswers (a v : Byte) (s : State) : (busWrite a v s).sendAnswers = s.sendAnswers.tail := rfl
@[simp] theorem busWrite_readCount (a v : Byte) (s : State) : (busWrite a v s).readCount = s.readCount := rfl
@[simp] theorem busWrite_writeCount (a v : Byte) (s : State) : (busWrite a v s).writeCount = s.writeCount + 1 := rfl

end Sys2Proof.Machine
end

