-- ==== Sys2Proof/Laws/Ops.lean ====
section
/-! SUPPORT. For each shared operation, once, everything it can do. -/

namespace Sys2Proof.Machine

/-- An instruction takes effect in every phase but `DEAD`. -/
theorem perform_alive (f : State → State) (s : State) (h : s.phase ≠ .dead) : perform f s = .next (f s) := by
  unfold perform
  split
  · contradiction
  · rfl

/-- In `DEAD` every instruction is stuck. -/
theorem perform_dead (f : State → State) (s : State) (h : s.phase = .dead) : perform f s = .fault .stuckDead := by
  simp [perform, h]

/-- What `perform` can do when it answers a next state. -/
theorem perform_next (f : State → State) (s t : State) (h : perform f s = .next t) : s.phase ≠ .dead ∧ t = f s := by
  by_cases hd : s.phase = .dead
  · rw [perform_dead f s hd] at h; cases h
  · rw [perform_alive f s hd] at h; cases h; exact ⟨hd, rfl⟩

/-- In `IDLE` a command is accepted. -/
theorem accept_idle (w : Byte) (f : State → State) (s : State) (h : s.phase = .idle) :
    accept w f s = f { emit (.cmd w) s with cmd := w } := by
  simp [accept, h]

/-- In every other phase the port holds. -/
theorem accept_hold (w : Byte) (f : State → State) (s : State) (h : s.phase ≠ .idle) : accept w f s = s := by
  unfold accept
  split
  · contradiction
  · rfl

/-- The next answer to a read, where one is offered. -/
theorem nextXferAnswer_cons (s : State) (a : XferAnswer) (rest : List XferAnswer) (h : s.xferAnswers = a :: rest) :
    nextXferAnswer s = a := by
  simp [nextXferAnswer, xferAnswerAt, h]

/-- The next answer to a write, where one is offered. -/
theorem nextSendAnswer_cons (s : State) (a : SendAnswer) (rest : List SendAnswer) (h : s.sendAnswers = a :: rest) :
    nextSendAnswer s = a := by
  simp [nextSendAnswer, sendAnswerAt, h]

/-- The answers to come depend on the offered answers and the count alone. -/
theorem xferAnswerAt_congr (s t : State) (k : Nat) (ha : t.xferAnswers = s.xferAnswers) (hc : t.readCount = s.readCount) :
    xferAnswerAt t k = xferAnswerAt s k := by
  simp [xferAnswerAt, ha, hc]

/-- The answers to come depend on the offered answers and the count alone. -/
theorem sendAnswerAt_congr (s t : State) (k : Nat) (ha : t.sendAnswers = s.sendAnswers)
    (hc : t.writeCount = s.writeCount) : sendAnswerAt t k = sendAnswerAt s k := by
  simp [sendAnswerAt, ha, hc]

/-- After a read, the answers to reads have moved on by one. -/
theorem xferAnswerAt_read (s t : State) (k : Nat) (ha : t.xferAnswers = s.xferAnswers.tail)
    (hc : t.readCount = s.readCount + 1) : xferAnswerAt t k = xferAnswerAt s (k + 1) := by
  simp [xferAnswerAt, ha, hc, Nat.add_assoc, Nat.add_comm 1 k]

/-- After a write, the answers to writes have moved on by one. -/
theorem sendAnswerAt_write (s t : State) (k : Nat) (ha : t.sendAnswers = s.sendAnswers.tail)
    (hc : t.writeCount = s.writeCount + 1) : sendAnswerAt t k = sendAnswerAt s (k + 1) := by
  simp [sendAnswerAt, ha, hc, Nat.add_assoc, Nat.add_comm 1 k]

/-- A register read hands on the byte, or raises `BusError`. -/
theorem readRegister_cases (c : RaiseContext) (a : Byte) (ok : Byte → State → State) (s : State) :
    (∃ b, nextXferAnswer s = .data b ∧ readRegister c a ok s = ok b (busRead a s)) ∨
    ((∀ b, nextXferAnswer s ≠ .data b) ∧ readRegister c a ok s = raiseIn c .busError noInfo (busRead a s)) := by
  unfold readRegister
  split
  · exact .inl ⟨_, ‹_›, rfl⟩
  · exact .inr ⟨by simp [*], rfl⟩
  · exact .inr ⟨by simp [*], rfl⟩

/-- A register write goes on, or raises `BusError`. -/
theorem writeRegister_cases (c : RaiseContext) (a v : Byte) (ok : State → State) (s : State) :
    (nextSendAnswer s = .ack ∧ writeRegister c a v ok s = ok (busWrite a v s)) ∨
    (nextSendAnswer s = .err ∧ writeRegister c a v ok s = raiseIn c .busError noInfo (busWrite a v s)) := by
  unfold writeRegister
  split
  · exact .inl ⟨‹_›, rfl⟩
  · exact .inr ⟨‹_›, rfl⟩

/-- What holds after the byte is handed on and after the error is raised holds after the read. -/
theorem readRegister_keeps (P : State → Prop) (c : RaiseContext) (a : Byte) (ok : Byte → State → State) (s : State)
    (answered : ∀ b, nextXferAnswer s = .data b → P (ok b (busRead a s)))
    (failed : (∀ b, nextXferAnswer s ≠ .data b) → P (raiseIn c .busError noInfo (busRead a s))) :
    P (readRegister c a ok s) := by
  rcases readRegister_cases c a ok s with ⟨b, hb, e⟩ | ⟨hb, e⟩ <;> rw [e]
  · exact answered b hb
  · exact failed hb

/-- What holds after going on and after the error is raised holds after the write. -/
theorem writeRegister_keeps (P : State → Prop) (c : RaiseContext) (a v : Byte) (ok : State → State) (s : State)
    (answered : nextSendAnswer s = .ack → P (ok (busWrite a v s)))
    (failed : nextSendAnswer s = .err → P (raiseIn c .busError noInfo (busWrite a v s))) :
    P (writeRegister c a v ok s) := by
  rcases writeRegister_cases c a v ok s with ⟨ha, e⟩ | ⟨ha, e⟩ <;> rw [e]
  · exact answered ha
  · exact failed ha

/-- What holds before a step and after it, where control is at its phase, holds after it. -/
theorem inPhase_keeps (P : State → Prop) (p : Phase) (f : State → State) (s : State) (h : P s)
    (performed : s.phase = p → P (f s)) : P (inPhase p f s) := by
  unfold inPhase
  split
  · exact performed ‹_›
  · exact h

/-- A step performed when control is at its phase. -/
theorem inPhase_at (p : Phase) (f : State → State) (s : State) (h : s.phase = p) : inPhase p f s = f s := by
  simp [inPhase, h]

/-- A step passed over when control is elsewhere. -/
theorem inPhase_other (p : Phase) (f : State → State) (s : State) (h : s.phase ≠ p) : inPhase p f s = s := by
  simp [inPhase, h]

/-- Raising an error in a cycle sets `err` and goes to `M_ABORT`. -/
theorem raiseIn_cycle (e : ErrCode) (info : Byte) (s : State) :
    raiseIn .cycle e info s = { s with err := ⟨e, info⟩, phase := .mAbort } := rfl

/-- Raising an error in the identity check sets `ident` and `boot_err` and goes to `B_RELEASE`. -/
theorem raiseIn_boot (e : ErrCode) (info : Byte) (s : State) :
    raiseIn .boot e info s = { s with ident := .failed, bootErr := some ⟨e, info⟩, phase := .bRelease } := rfl

/-- Raising an error at dispatch is its response. -/
theorem raiseIn_dispatch (e : ErrCode) (info : Byte) (s : State) :
    raiseIn .dispatch e info s = { s with trace := s.trace ++ [.rsp e.code 0 0x00], phase := .idle } := rfl

end Sys2Proof.Machine
end

