-- ==== Sys2Proof/Laws/Measure.lean ====
section
/-! SUPPORT. What the step `M_POLL` and the loop over it can do. -/

namespace Sys2Proof.Machine

/-- The state after one answered STATUS read has been counted. -/
abbrev polled (status : Byte) (s : State) : State :=
  { busRead regStatus s with statusByte := status, pollCnt := s.pollCnt + 1 }

/-- The four outcomes of one STATUS read: ready, out of reads, again, bus failure. -/
theorem mPoll_cases (s : State) :
    (∃ b, nextXferAnswer s = .data b ∧ notReady b = false ∧ mPoll s = goto .mLatch (polled b s)) ∨
    (∃ b, nextXferAnswer s = .data b ∧ notReady b = true ∧ s.pollCnt + 1 = s.pollLimit ∧
      mPoll s = { polled b s with err := ⟨.timeoutError, 0x00⟩, phase := .mAbort }) ∨
    (∃ b, nextXferAnswer s = .data b ∧ notReady b = true ∧ s.pollCnt + 1 ≠ s.pollLimit ∧
      mPoll s = goto .mPoll (polled b s)) ∨
    ((∀ b, nextXferAnswer s ≠ .data b) ∧
      mPoll s = { busRead regStatus s with err := ⟨.busError, 0x00⟩, phase := .mAbort }) := by
  rcases readRegister_cases .cycle regStatus pollAnswered s with ⟨b, hb, h⟩ | ⟨hb, h⟩
  · cases hr : notReady b with
    | false => exact .inl ⟨b, hb, hr, by rw [mPoll, h]; simp [pollAnswered, hr]; rfl⟩
    | true =>
      by_cases hl : s.pollCnt + 1 = s.pollLimit
      · exact .inr (.inl ⟨b, hb, hr, hl, by rw [mPoll, h]; simp [pollAnswered, hr, pollExhausted, hl, raiseIn, noInfo]⟩)
      · exact .inr (.inr (.inl ⟨b, hb, hr, hl, by rw [mPoll, h]; simp [pollAnswered, hr, pollExhausted, hl]; rfl⟩))
  · exact .inr (.inr (.inr ⟨hb, by rw [mPoll, h]; rfl⟩))

/-- The loop stops where the step leaves its phase. -/
theorem pollLoop_stop (n : Nat) (s : State) (h : (mPoll s).phase ≠ .mPoll) : pollLoop (n + 1) s = mPoll s := by
  rw [pollLoop]
  split
  · contradiction
  · rfl

/-- The loop goes on where the step leads back to itself. -/
theorem pollLoop_again (n : Nat) (s : State) (h : (mPoll s).phase = .mPoll) :
    pollLoop (n + 1) s = pollLoop n (mPoll s) := by
  rw [pollLoop, h]

/-- What every STATUS read keeps, the loop keeps: the induction over the loop, done once. -/
theorem pollLoop_keeps (P : State → Prop) (keeps : ∀ s, P s → P (mPoll s)) :
    ∀ n s, P s → P (pollLoop n s)
  | 0, _, h => h
  | n + 1, s, h => by
    by_cases hp : (mPoll s).phase = .mPoll
    · rw [pollLoop_again n s hp]; exact pollLoop_keeps P keeps n _ (keeps s h)
    · rw [pollLoop_stop n s hp]; exact keeps s h

/-- What holds after each of the four outcomes of a STATUS read holds after it. -/
theorem mPoll_keeps (P : State → Prop) (s : State) (ready : ∀ b, P (goto .mLatch (polled b s)))
    (exhausted : ∀ b, P { polled b s with err := ⟨.timeoutError, 0x00⟩, phase := .mAbort })
    (again : ∀ b, P (goto .mPoll (polled b s)))
    (failed : P { busRead regStatus s with err := ⟨.busError, 0x00⟩, phase := .mAbort }) : P (mPoll s) := by
  rcases mPoll_cases s with ⟨b, -, -, e⟩ | ⟨b, -, -, -, e⟩ | ⟨b, -, -, -, e⟩ | ⟨-, e⟩ <;> rw [e]
  · exact ready b
  · exact exhausted b
  · exact again b
  · exact failed

/-- What every step of a cycle keeps, the cycle keeps. -/
theorem measureCycle_keeps (P : State → Prop) (c : CycleKind) (s : State) (start : P { s with cycle := c })
    (select : ∀ s, P s → P (mSelect s)) (wait : ∀ s, P s → P (mWait s)) (config : ∀ s, P s → P (mConfig s))
    (count : ∀ s, P s → P (goto .mPoll { s with pollCnt := 0 }))
    (poll : ∀ s, P s → P (mPoll s)) (latch : ∀ s, P s → P (mLatch s)) (hi : ∀ s, P s → P (mReadHi s))
    (lo : ∀ s, P s → P (mReadLo s)) (release : ∀ s, P s → P (mRelease s)) (abort : ∀ s, P s → P (mAbort s)) :
    P (measureCycle c s) := by
  have guarded : ∀ p f, (∀ s, P s → P (f s)) → ∀ s, P s → P (inPhase p f s) := fun p f hf s hs =>
    inPhase_keeps P p f s hs fun _ => hf s hs
  have configured := config _ (wait _ (select _ start))
  exact guarded _ _ abort _ (guarded _ _ release _ (guarded _ _ lo _ (guarded _ _ hi _ (guarded _ _ latch _
    (guarded _ _ (fun s hs => pollLoop_keeps P poll _ _ (count s hs)) _ configured)))))

end Sys2Proof.Machine
end

