-- ==== Sys2Proof/Laws/Operands.lean ====
section
/-! SUPPORT. The operands: what the byte and sample operations compute. -/

namespace Sys2Proof.Machine

/-- The assembled sample as a number. -/
theorem assembleSample_toNat (h l : Byte) : (assembleSample h l).toNat = 256 * h.toNat + l.toNat := by
  have hl := l.isLt
  have hh := h.isLt
  have split := Nat.two_pow_add_eq_or_of_lt (i := 8) hl h.toNat
  simp only [assembleSample, BitVec.toNat_or, BitVec.toNat_shiftLeft, BitVec.truncate_eq_setWidth,
    BitVec.toNat_setWidth, Nat.shiftLeft_eq]
  rw [Nat.mod_eq_of_lt (by omega : l.toNat < 2 ^ 16), Nat.mod_eq_of_lt (by omega : h.toNat < 2 ^ 16),
    Nat.mod_eq_of_lt (by omega : h.toNat * 2 ^ 8 < 2 ^ 16), Nat.or_comm, Nat.mul_comm h.toNat, ← split]

/-- The temperature field as a number. -/
theorem temperatureField_eq (raw : Sample) : temperatureField raw = raw.toNat / 4 := by
  simp [temperatureField, Nat.shiftRight_eq_div_pow]

/-- The humidity field as a number. -/
theorem humidityField_eq (raw : Sample) : humidityField raw = raw.toNat / 16 := by
  simp [humidityField, Nat.shiftRight_eq_div_pow]

/-- A stored option byte with its hardwired bits clear is one of four. -/
theorem configBits_four (b : Byte) (h : b &&& configHardwired = 0) : b = 0x00 ∨ b = 0x02 ∨ b = 0x20 ∨ b = 0x22 := by
  have every : ∀ b : Byte, b &&& 0xDD = 0 → b = 0x00 ∨ b = 0x02 ∨ b = 0x20 ∨ b = 0x22 := by decide +kernel
  exact every b h

end Sys2Proof.Machine
end

