-- ==== Sys2Proof/Laws/PerInstr.lean ====
section
/-! SUPPORT. Laws of every instruction as syntax, one lemma per constructor. -/

namespace Sys2Proof.Laws.FrameLength

/-- The bytes of an operation are as many as its format gives it (R106, R111). -/
def Statement (i : Instr) : Prop := (encode i).length = i.format.length

theorem rdtC : Statement .rdtC := rfl
theorem rdtF : Statement .rdtF := rfl
theorem rdh : Statement .rdh := rfl
theorem heatOff : Statement .heatOff := rfl
theorem heatOn : Statement .heatOn := rfl
theorem fastOff : Statement .fastOff := rfl
theorem fastOn : Statement .fastOn := rfl
theorem rreg (addr : Byte) : Statement (.rreg addr) := rfl
theorem rregStatus : Statement .rregStatus := rfl
theorem rregDataHi : Statement .rregDataHi := rfl
theorem rregDataLo : Statement .rregDataLo := rfl
theorem rregId : Statement .rregId := rfl
theorem wreg (addr value : Byte) : Statement (.wreg addr value) := rfl
theorem wregConfig (fast temp heat : Bool) : Statement (.wregConfig fast temp heat) := rfl
theorem wregDataAck : Statement .wregDataAck := rfl
theorem ident : Statement .ident := rfl
theorem poll : Statement .poll := rfl
theorem measureH : Statement .measureH := rfl
theorem measureT : Statement .measureT := rfl
theorem ctemp (raw16 : Sample) (unit : TempUnit) : Statement (.ctemp raw16 unit) := rfl
theorem chum (raw16 : Sample) : Statement (.chum raw16) := rfl

end Sys2Proof.Laws.FrameLength
end

