-- ==== Sys2Proof/Laws/Step.lean ====
section
/-! SUPPORT. Once, everything a step of the block can do: the inversion every proof about `step` goes through. -/

namespace Sys2Proof.Machine

/-- The state in which a command word has been taken from the port and accepted. -/
abbrev taken (w : Byte) (rest : List Byte) (s : State) : State :=
  { s with port := rest, trace := s.trace ++ [.cmd w], cmd := w }

/-- The state in which a toggle has written `config_bits` and responded. -/
abbrev toggled (w : Byte) (rest : List Byte) (bits : Byte) (s : State) : State :=
  { s with
    port := rest
    trace := s.trace ++ [.cmd w] ++ [.rsp 0 0 0x00]
    cmd := w
    configBits := bits
    phase := .idle }

/-- A bus read was answered with no byte. -/
abbrev ReadFails (s : State) : Prop := ∀ b, nextXferAnswer s ≠ .data b

/-- The state in which a cycle has failed. -/
abbrev failed (e : ErrCode) (s : State) : State := { s with err := ⟨e, 0x00⟩, phase := .mAbort }

/-- The transitions of the block, one constructor per step of a phase, per answer and per command, with the next state
written out (R24, R221). -/
inductive Transition (s : State) : State → Prop where
  | bSelect (at_ : s.phase = .bSelect) :
    Transition s
      { s with trace := s.trace ++ [.mode .output, .pin 0], pinMode := .output, cs := 0, phase := .bWait }
  | bWait (at_ : s.phase = .bWait) :
    Transition s { s with trace := s.trace ++ [.wait 15], phase := .bReadId }
  | idGood (b : Byte) (at_ : s.phase = .bReadId) (answer : nextXferAnswer s = .data b) (good : recognised b = true) :
    Transition s { busRead 0x11 s with idRaw := b, ident := .ready, phase := .bRelease }
  | idBad (b : Byte) (at_ : s.phase = .bReadId) (answer : nextXferAnswer s = .data b) (bad : recognised b = false) :
    Transition s
      { busRead 0x11 s with
        idRaw := b, ident := .failed, bootErr := some ⟨.unrecognizedDeviceError, b⟩, phase := .bRelease }
  | idFails (at_ : s.phase = .bReadId) (answer : ReadFails s) :
    Transition s
      { busRead 0x11 s with ident := .failed, bootErr := some ⟨.busError, 0x00⟩, phase := .bRelease }
  | bootReady (at_ : s.phase = .bRelease) (ready : s.ident = .ready) :
    Transition s { s with trace := s.trace ++ [.pin 1, .ident .ready], cs := 1, phase := .idle }
  | bootFailed (at_ : s.phase = .bRelease) (notReady : s.ident ≠ .ready) :
    Transition s { s with trace := s.trace ++ [.pin 1, .ident (.failed s.bootErr)], cs := 1, phase := .dead }
  | waiting (at_ : s.phase = .idle) (offered : s.port = []) : Transition s s
  | rdtC (rest : List Byte) (at_ : s.phase = .idle) (offered : s.port = 0x10 :: rest) :
    Transition s { taken 0x10 rest s with cycle := .temperature, unit := .celsius, phase := .mSelect }
  | rdtF (rest : List Byte) (at_ : s.phase = .idle) (offered : s.port = 0x11 :: rest) :
    Transition s { taken 0x11 rest s with cycle := .temperature, unit := .fahrenheit, phase := .mSelect }
  | rdh (rest : List Byte) (t : Binary64) (at_ : s.phase = .idle) (offered : s.port = 0x20 :: rest)
    (stored : s.lastTemperature = some t) :
    Transition s { taken 0x20 rest s with cycle := .humidity, phase := .mSelect }
  | stale (rest : List Byte) (at_ : s.phase = .idle) (offered : s.port = 0x20 :: rest)
    (stored : s.lastTemperature = none) :
    Transition s { taken 0x20 rest s with trace := s.trace ++ [.cmd 0x20, .rsp 4 0 0x00] }
  | heatOff (rest : List Byte) (at_ : s.phase = .idle) (offered : s.port = 0x30 :: rest) :
    Transition s (toggled 0x30 rest (s.configBits &&& 0xFD) s)
  | heatOn (rest : List Byte) (at_ : s.phase = .idle) (offered : s.port = 0x31 :: rest) :
    Transition s (toggled 0x31 rest (s.configBits ||| 0x02) s)
  | fastOff (rest : List Byte) (at_ : s.phase = .idle) (offered : s.port = 0x40 :: rest) :
    Transition s (toggled 0x40 rest (s.configBits &&& 0xDF) s)
  | fastOn (rest : List Byte) (at_ : s.phase = .idle) (offered : s.port = 0x41 :: rest) :
    Transition s (toggled 0x41 rest (s.configBits ||| 0x20) s)
  | mSelect (at_ : s.phase = .mSelect) :
    Transition s { s with trace := s.trace ++ [.pin 0], cs := 0, phase := .mWait }
  | mWait (at_ : s.phase = .mWait) : Transition s { s with trace := s.trace ++ [.wait 15], phase := .mConfig }
  | config (at_ : s.phase = .mConfig) (answer : nextSendAnswer s = .ack) :
    Transition s { busWrite 0x03 (configByte s.cycle s.configBits) s with pollCnt := 0, phase := .mPoll }
  | configFails (at_ : s.phase = .mConfig) (answer : nextSendAnswer s = .err) :
    Transition s (failed .busError (busWrite 0x03 (configByte s.cycle s.configBits) s))
  | pollReady (b : Byte) (at_ : s.phase = .mPoll) (answer : nextXferAnswer s = .data b) (ready : notReady b = false) :
    Transition s { polled b s with phase := .mLatch }
  | pollTimeout (b : Byte) (at_ : s.phase = .mPoll) (answer : nextXferAnswer s = .data b) (busy : notReady b = true)
    (last : s.pollCnt + 1 = s.pollLimit) : Transition s (failed .timeoutError (polled b s))
  | pollAgain (b : Byte) (at_ : s.phase = .mPoll) (answer : nextXferAnswer s = .data b) (busy : notReady b = true)
    (more : s.pollCnt + 1 ≠ s.pollLimit) : Transition s { polled b s with phase := .mPoll }
  | pollFails (at_ : s.phase = .mPoll) (answer : ReadFails s) :
    Transition s (failed .busError (busRead 0x00 s))
  | latch (at_ : s.phase = .mLatch) (answer : nextSendAnswer s = .ack) :
    Transition s { busWrite 0x01 0x00 s with phase := .mReadHi }
  | latchFails (at_ : s.phase = .mLatch) (answer : nextSendAnswer s = .err) :
    Transition s (failed .busError (busWrite 0x01 0x00 s))
  | readHi (b : Byte) (at_ : s.phase = .mReadHi) (answer : nextXferAnswer s = .data b) :
    Transition s { busRead 0x01 s with hi := b, phase := .mReadLo }
  | readHiFails (at_ : s.phase = .mReadHi) (answer : ReadFails s) :
    Transition s (failed .busError (busRead 0x01 s))
  | readLo (b : Byte) (at_ : s.phase = .mReadLo) (answer : nextXferAnswer s = .data b) :
    Transition s { busRead 0x02 s with lo := b, phase := .mRelease }
  | readLoFails (at_ : s.phase = .mReadLo) (answer : ReadFails s) :
    Transition s (failed .busError (busRead 0x02 s))
  | mRelease (at_ : s.phase = .mRelease) :
    Transition s
      { s with trace := s.trace ++ [.pin 1], cs := 1, raw16 := assembleSample s.hi s.lo, phase := .mCompute }
  | temperature (at_ : s.phase = .mCompute) (kind : s.cycle = .temperature) :
    Transition s
      { s with
        lastTemperature := some (celsius s.raw16)
        result := temperatureValue s.raw16 s.unit
        trace := s.trace ++ [.rsp 0 (temperatureValue s.raw16 s.unit) 0x00]
        phase := .idle }
  | humidity (t : Binary64) (at_ : s.phase = .mCompute) (kind : s.cycle = .humidity)
    (stored : s.lastTemperature = some t) :
    Transition s
      { s with
        result := humidity s.raw16 t
        trace := s.trace ++ [.rsp 0 (humidity s.raw16 t) 0x00]
        phase := .idle }
  | noTemperature (at_ : s.phase = .mCompute) (kind : s.cycle = .humidity) (stored : s.lastTemperature = none) :
    Transition s (failed .staleCompensationError s)
  | mAbort (at_ : s.phase = .mAbort) :
    Transition s
      { s with trace := s.trace ++ [.pin 1, .rsp s.err.code.code 0 0x00], cs := 1, phase := .idle }

/-- The seven command words with their commands. -/
abbrev commandTable : List (Byte × Instr) :=
  [(0x10, .rdtC), (0x11, .rdtF), (0x20, .rdh), (0x30, .heatOff), (0x31, .heatOn), (0x40, .fastOff), (0x41, .fastOn)]

/-- A word that decodes to a command is that command's row of the table. -/
theorem decodeCommand_ok (w : Byte) (i : Instr) (h : decodeCommand w = .ok i) : (w, i) ∈ commandTable := by
  have every : ∀ w : Byte, (decodeCommand w).toOption.all (fun i => commandTable.contains (w, i)) = true := by
    decide +kernel
  have hw := every w
  rw [h] at hw
  simpa [Except.toOption] using hw

/-- The words of the table decode to their commands. -/
theorem decodeCommand_table : ∀ p ∈ commandTable, (decodeCommand p.1).toOption = some p.2 := by decide +kernel

/-- The step `B_READ_ID` is one of its transitions. -/
theorem bReadId_transition (s : State) (hp : s.phase = .bReadId) : Transition s (bReadId s) := by
  rcases readRegister_cases .boot regId idAnswered s with ⟨b, hb, e⟩ | ⟨hb, e⟩ <;> rw [bReadId, e]
  · unfold idAnswered
    split
    · exact .idGood b hp hb ‹_›
    · rename_i bad
      exact .idBad b hp hb (by simpa using bad)
  · exact .idFails hp hb

/-- The step `B_RELEASE` is one of its transitions. -/
theorem bRelease_transition (s : State) (hp : s.phase = .bRelease) : Transition s (bRelease s) := by
  unfold bRelease
  split
  · simpa [goto, emit, pinWrite] using Transition.bootReady hp ‹_›
  · simpa [goto, emit, pinWrite] using Transition.bootFailed hp ‹_›

/-- The step `M_CONFIG` is one of its transitions. -/
theorem mConfig_transition (s : State) (hp : s.phase = .mConfig) : Transition s (mConfig s) := by
  rcases writeRegister_cases .cycle regConfig (configByte s.cycle s.configBits)
    (fun t => goto .mPoll { t with pollCnt := 0 }) s with ⟨ha, e⟩ | ⟨ha, e⟩ <;> rw [mConfig, writeConfig, e]
  · exact .config hp ha
  · exact .configFails hp ha

/-- The step `M_POLL` is one of its transitions. -/
theorem mPoll_transition (s : State) (hp : s.phase = .mPoll) : Transition s (mPoll s) := by
  rcases mPoll_cases s with ⟨b, hb, hr, e⟩ | ⟨b, hb, hr, hl, e⟩ | ⟨b, hb, hr, hl, e⟩ | ⟨hb, e⟩ <;> rw [e]
  · exact .pollReady b hp hb hr
  · exact .pollTimeout b hp hb hr hl
  · exact .pollAgain b hp hb hr hl
  · exact .pollFails hp hb

/-- The step `M_LATCH` is one of its transitions. -/
theorem mLatch_transition (s : State) (hp : s.phase = .mLatch) : Transition s (mLatch s) := by
  rcases writeRegister_cases .cycle regData dataAck (goto .mReadHi) s with ⟨ha, e⟩ | ⟨ha, e⟩ <;> rw [mLatch, e]
  · exact .latch hp ha
  · exact .latchFails hp ha

/-- The step `M_READ_HI` is one of its transitions. -/
theorem mReadHi_transition (s : State) (hp : s.phase = .mReadHi) : Transition s (mReadHi s) := by
  rcases readRegister_cases .cycle regDataHi (fun b t => goto .mReadLo { t with hi := b }) s with
    ⟨b, hb, e⟩ | ⟨hb, e⟩ <;> rw [mReadHi, e]
  · exact .readHi b hp hb
  · exact .readHiFails hp hb

/-- The step `M_READ_LO` is one of its transitions. -/
theorem mReadLo_transition (s : State) (hp : s.phase = .mReadLo) : Transition s (mReadLo s) := by
  rcases readRegister_cases .cycle regDataLo (fun b t => goto .mRelease { t with lo := b }) s with
    ⟨b, hb, e⟩ | ⟨hb, e⟩ <;> rw [mReadLo, e]
  · exact .readLo b hp hb
  · exact .readLoFails hp hb

/-- The step `IDLE` is one of its transitions. -/
theorem idle_transition (s t : State) (hp : s.phase = .idle) (h : idleStep s = .next t) : Transition s t := by
  unfold idleStep at h
  split at h <;> rename_i hport
  · cases h; exact .waiting hp hport
  · split at h <;> rename_i hw
    · have hmem := decodeCommand_ok _ _ hw
      simp only [commandTable, List.mem_cons, Prod.mk.injEq, List.not_mem_nil, or_false] at hmem
      rcases hmem with ⟨rfl, rfl⟩ | ⟨rfl, rfl⟩ | ⟨rfl, rfl⟩ | ⟨rfl, rfl⟩ | ⟨rfl, rfl⟩ | ⟨rfl, rfl⟩ | ⟨rfl, rfl⟩ <;>
        (obtain ⟨-, rfl⟩ := perform_next _ _ _ h; rw [accept_idle _ _ _ (by exact hp)])
      · exact .rdtC _ hp hport
      · exact .rdtF _ hp hport
      · cases ht : s.lastTemperature with
        | none =>
          simpa [ht, raiseIn, respond, goto, emit, wordRdh, ErrCode.code, noValue, noInfo, hp] using
            Transition.stale _ hp hport ht
        | some v => simpa [ht, goto, emit, wordRdh] using Transition.rdh _ v hp hport ht
      · exact .heatOff _ hp hport
      · exact .heatOn _ hp hport
      · exact .fastOff _ hp hport
      · exact .fastOn _ hp hport
    · cases h

/-- The step `M_COMPUTE` is one of its transitions. -/
theorem compute_transition (s t : State) (hp : s.phase = .mCompute) (h : computeStep s = .next t) : Transition s t := by
  have hd : s.phase ≠ .dead := by simp [hp]
  unfold computeStep computation at h
  split at h <;> rename_i hc <;> simp only [exec, execCtemp, execChum, perform_alive _ _ hd, andThen] at h <;> cases h
  · simpa [respondResult, inPhase, hp, goto, respond, emit, codeOk, noInfo] using Transition.temperature hp hc
  · cases ht : s.lastTemperature with
    | none =>
      have e := Transition.noTemperature hp hc ht
      simpa [failed, respondResult, inPhase, raise, hp, ht, Phase.raiseContext, raiseIn, noInfo] using e
    | some v =>
      simpa [respondResult, inPhase, hp, ht, goto, respond, emit, codeOk, noInfo] using
        Transition.humidity v hp hc ht

/-- Every step of the block is one of the transitions. -/
theorem step_transition (s t : State) (h : step s = .next t) : Transition s t := by
  unfold step phaseStep at h
  split at h <;> rename_i hp
  · cases h; simpa [bSelect, goto, pinWrite, pinModeOutput, emit] using Transition.bSelect hp
  · cases h; exact .bWait hp
  · obtain ⟨-, rfl⟩ := perform_next _ _ _ h; exact bReadId_transition s hp
  · cases h; exact bRelease_transition s hp
  · cases h
  · exact idle_transition s t hp h
  · cases h; exact .mSelect hp
  · cases h; exact .mWait hp
  · cases h; exact mConfig_transition s hp
  · obtain ⟨-, rfl⟩ := perform_next _ _ _ h; exact mPoll_transition s hp
  · obtain ⟨-, rfl⟩ := perform_next _ _ _ h; exact mLatch_transition s hp
  · obtain ⟨-, rfl⟩ := perform_next _ _ _ h; exact mReadHi_transition s hp
  · obtain ⟨-, rfl⟩ := perform_next _ _ _ h; exact mReadLo_transition s hp
  · cases h; exact .mRelease hp
  · exact compute_transition s t hp h
  · cases h
    simpa [mAbort, goto, pinWrite, respond, emit, noValue, noInfo] using Transition.mAbort hp

end Sys2Proof.Machine
end

