-- ==== Sys2Proof/Laws/Trace.lean ====
section
/-! SUPPORT. The rules over the trace, event by event: how each reads a trace that has grown. -/

namespace Sys2Proof.Machine

/-- Where a longer trace stands. -/
theorem window_append (before events : List Event) :
    window (before ++ events) = events.foldl Window.next (window before) := by
  simp [window, List.foldl_append]

/-- What a longer trace shows of the temperature commands. -/
theorem temperatureSeen_append (before events : List Event) :
    temperatureSeen (before ++ events) = events.foldl temperatureNext (temperatureSeen before) := by
  simp [temperatureSeen, List.foldl_append]

end Sys2Proof.Machine
end

