-- ==== Sys2Proof/Tests/Slice0.lean ====
section
/-! SUPPORT. Tests on values the spec prints (spec/30_encoding.md, spec/95_test_vectors.md), and for each statement
with hypotheses a state and operands that meet them. -/

namespace Sys2Proof.Tests

open Sys2Proof Sys2Proof.Machine

/-- A small state: a phase, the next answers of the environment, and `POLL_LIMIT` = 3. -/
def at_ (p : Phase) (xfers : List XferAnswer) (sends : List SendAnswer) : State :=
  { State.resetWith 3 [] xfers sends with phase := p }

/-- A small state with an idle block, the given words at the port and the given option bits. -/
def idle (port : List Byte) (bits : Byte) : State := { at_ .idle [] [] with port := port, configBits := bits }

/-- The next state, or the given state where there is none. -/
def after (o : Host.Outcome State Fault Refusal) (s : State) : State := (nextState? o).getD s

/-! ## Well-formedness: each check refuses an ill-formed term -/

theorem test_rreg_of_config_ill_formed : Instr.wellFormed (.rreg 0x03) = false := by decide
theorem test_wreg_of_status_ill_formed : Instr.wellFormed (.wreg 0x00 0x00) = false := by decide

/-! ## Decoding: every row from its word, written out from the opcode table (V100 to V111) -/

theorem test_decode_rdtC : decode .cmd8 [0b00010000] = .ok .rdtC := by decide
theorem test_decode_rdtF : decode .cmd8 [0b00010001] = .ok .rdtF := by decide
theorem test_decode_rdh : decode .cmd8 [0b00100000] = .ok .rdh := by decide
theorem test_decode_heatOff : decode .cmd8 [0b00110000] = .ok .heatOff := by decide
theorem test_decode_heatOn : decode .cmd8 [0b00110001] = .ok .heatOn := by decide
theorem test_decode_fastOff : decode .cmd8 [0b01000000] = .ok .fastOff := by decide
theorem test_decode_fastOn : decode .cmd8 [0b01000001] = .ok .fastOn := by decide
theorem test_decode_rreg : decode .xfer1 [0b10000000] = .ok (.rreg 0x80) := by decide
theorem test_decode_rregStatus : decode .xfer1 [0b00000000] = .ok .rregStatus := by decide
theorem test_decode_rregDataHi : decode .xfer1 [0b00000001] = .ok .rregDataHi := by decide
theorem test_decode_rregDataLo : decode .xfer1 [0b00000010] = .ok .rregDataLo := by decide
theorem test_decode_rregId : decode .xfer1 [0b00010001] = .ok .rregId := by decide
theorem test_decode_wreg : decode .send2 [0b00000001, 0b00000001] = .ok (.wreg 0x01 0x01) := by decide
theorem test_decode_wregConfig_fast : decode .send2 [0b00000011, 0b00100001] = .ok (.wregConfig true false false) := by
  decide
theorem test_decode_wregConfig_heat : decode .send2 [0b00000011, 0b00000011] = .ok (.wregConfig false false true) := by
  decide
theorem test_decode_wregDataAck : decode .send2 [0b00000001, 0b00000000] = .ok .wregDataAck := by decide
theorem test_decode_rdh_operand : decode .cmd8 [0x21] = .error (.reservedArg 0x21) := by decide
theorem test_decode_zero_bits : decode .cmd8 [0x12] = .error (.reservedBits 0x12) := by decide
theorem test_decode_reserved_op : decode .cmd8 [0x50] = .error (.reservedOp 0x50) := by decide
theorem test_internal_has_no_bytes : ∀ i ∈ [Instr.ident, .poll, .measureH, .measureT, .ctemp 0 .celsius, .chum 0],
    encode i = [] ∧ decode i.format (encode i) = .error .noBitPattern := by decide

/-- The opcode table's numbering: byte 0 of a frame is in bits 15:8. -/
theorem test_table_words : decodeTableWord 8 0x41 = some .fastOn ∧ decodeTableWord 8 0x00 = some .rregStatus ∧
    decodeTableWord 16 0x0323 = some (.wregConfig true false true) ∧ decodeTableWord 16 0x0100 = some .wregDataAck := by
  decide

/-- The next step runs the word that was placed. -/
theorem test_placed_word_runs : (after (step (State.reset.withFetchWord 8 0x31)) State.reset).configBits = 0x02 ∧
    (after (step (State.reset.withFetchWord 8 0x11)) State.reset).unit = .fahrenheit := by decide

/-! ## The sample and the identity byte (V20 to V32, V80 to V87) -/

theorem test_sample_bytes_in_order : assembleSample 0x00 0x19 = 0x0019 ∧ assembleSample 0x18 0x0F = 0x180F := by decide
theorem test_sample_fields : temperatureField 0x180F = 1539 ∧ humidityField 0x180F = 384 ∧
    temperatureField 0xFFFF = 16383 ∧ humidityField 0xFFFF = 4095 := by decide
theorem test_id_high_nibble : recognised 0x5F = true ∧ recognised 0x4F = false ∧ recognised 0x60 = false ∧
    recognised 0x05 = false := by decide

/-! ## Compensation (V42, V49, V60, V63, V66, V70, V73) -/

theorem test_fahrenheit_rounds_each_step :
    fahrenheit (celsius 0x0004) = 0xC04CF8CCCCCCCCCC ∧ fahrenheit (celsius 0x2A00) = 0x40574CCCCCCCCCCD := by
  decide +kernel
theorem test_humidity_stepwise : F64.mul (0x40511331E3A7DAA5) q1 = 0x3FC4B82EC66C2982 ∧
    F64.add 0x3FC4B82EC66C2982 q0 = 0x3FD6FCA7911621DC ∧ F64.sub 0x403A900000000000 (F64.toNum 30) = 0xC00B800000000000 := by
  decide +kernel
theorem test_humidity_not_clamped : humidity 0x1800 0x0000000000000000 = 0xBFF798A94EEE4FAC ∧
    humidity 0x7D00 (F64.toNum 30) = 0x405A592F9873FFAC := by decide +kernel
theorem test_humidity_values : humidity 0x4000 (F64.toNum 25) = 0x4040D1BFFAD74C2C ∧
    humidity 0x5550 (F64.toNum 25) = 0x404B524D2E6CE449 := by decide +kernel

/-! ## One step per instruction -/

/-- V90 to V93. -/
theorem test_toggles : (after (exec .heatOn (idle [] 0x20)) (idle [] 0)).configBits = 0x22 ∧
    (after (exec .heatOff (idle [] 0x20)) (idle [] 0)).configBits = 0x20 ∧
    (after (exec .fastOn (idle [] 0x02)) (idle [] 0)).configBits = 0x22 ∧
    (after (exec .fastOff (idle [] 0x22)) (idle [] 0)).configBits = 0x02 := by decide

/-- V120. -/
theorem test_rdh_stale : (after (exec .rdh (idle [] 0)) (idle [] 0)).trace = [.cmd 0x20, .rsp 4 0 0x00] ∧
    (after (exec .rdh (idle [] 0)) (idle [] 0)).phase = .idle := by decide

/-- Program P1 of spec/95_test_vectors.md, its first step. -/
theorem test_rdtC_starts : (after (step (idle [0x10] 0)) (idle [] 0)).phase = .mSelect ∧
    (after (step (idle [0x10] 0)) (idle [] 0)).trace = [.cmd 0x10] ∧ (after (step (idle [0x10] 0)) (idle [] 0)).port = [] := by
  decide

/-- V3: one event, no second try. -/
theorem test_rreg_error : (after (exec (.rreg 0x01) (at_ .mReadHi [.err, .data 0x55] [])) (idle [] 0)).trace =
    [.xfer 0x01 .err] ∧ (after (exec (.rreg 0x01) (at_ .mReadHi [.err] [])) (idle [] 0)).err = ⟨.busError, 0x00⟩ := by decide

/-- V6. -/
theorem test_wreg_ack : (after (exec (.wreg 0x03 0x11) (at_ .mConfig [] [.ack])) (idle [] 0)).trace =
    [.send 0x03 0x11 .ack] := by decide

/-- V9, V12, V14: the successor of `M_POLL`. -/
theorem test_poll_step : (after (step (at_ .mPoll [.data 0x01] [])) (idle [] 0)).phase = .mPoll ∧
    (after (step { at_ .mPoll [.data 0xFE] [] with pollCnt := 1 }) (idle [] 0)).phase = .mLatch ∧
    (after (step { at_ .mPoll [.data 0x00] [] with pollCnt := 2 }) (idle [] 0)).phase = .mLatch := by decide

/-- V13, V15: the two ways out of the last allowed read. -/
theorem test_poll_step_fails :
    (after (step { at_ .mPoll [.data 0x01] [] with pollCnt := 2 }) (idle [] 0)).err = ⟨.timeoutError, 0x00⟩ ∧
    (after (step { at_ .mPoll [.err] [] with pollCnt := 2 }) (idle [] 0)).err = ⟨.busError, 0x00⟩ ∧
    (after (step { at_ .mPoll [.err] [] with pollCnt := 2 }) (idle [] 0)).pollCnt = 2 := by decide

/-- P1: the bytes of the two data reads. -/
theorem test_data_reads : (after (step (at_ .mReadHi [.data 0x25] [])) (idle [] 0)).hi = 0x25 ∧
    (after (step (at_ .mReadLo [.data 0x80] [])) (idle [] 0)).lo = 0x80 := by decide

/-- V27 and P2: the CONFIG byte with both option bits. -/
theorem test_config_step : (after (step { at_ .mConfig [] [.ack] with configBits := 0x22, cycle := .temperature })
    (idle [] 0)).trace = [.send 0x03 0x33 .ack] := by decide

/-- V8 and V122. -/
theorem test_latch_step : (after (exec .wregDataAck (at_ .mLatch [] [.ack])) (idle [] 0)).phase = .mReadHi ∧
    (after (exec .wregDataAck (at_ .mLatch [] [.err])) (idle [] 0)).phase = .mAbort := by decide

/-- V124: three reads find the chip busy. -/
theorem test_poll_timeout :
    (after (exec .poll (at_ .mPoll [.data 0x01, .data 0x01, .data 0x01] [])) (idle [] 0)).err = ⟨.timeoutError, 0x00⟩ := by
  decide

/-- P1: the whole cycle. -/
theorem test_measureT : (after (exec .measureT (at_ .mSelect [.data 0x01, .data 0x00, .data 0x25, .data 0x80]
    [.ack, .ack])) (idle [] 0)).raw16 = 0x2580 := by decide

/-- P1: the events of the cycle. -/
theorem test_measureT_trace : (after (exec .measureT (at_ .mSelect [.data 0x01, .data 0x00, .data 0x25, .data 0x80]
    [.ack, .ack])) (idle [] 0)).trace =
    [.pin 0, .wait 15, .send 0x03 0x11 .ack, .xfer 0x00 (.data 0x01), .xfer 0x00 (.data 0x00), .send 0x01 0x00 .ack,
      .xfer 0x01 (.data 0x25), .xfer 0x02 (.data 0x80), .pin 1] := by decide

/-- V121 with a humidity cycle: the CONFIG write fails. -/
theorem test_measureH_fails : (after (exec .measureH (at_ .mSelect [] [.err])) (idle [] 0)).trace =
    [.pin 0, .wait 15, .send 0x03 0x01 .err, .pin 1, .rsp 1 0 0x00] := by decide

/-- V80. -/
theorem test_ident_ready : (after (exec .ident (at_ .bSelect [.data 0x50] [])) (idle [] 0)).trace =
    [.mode .output, .pin 0, .wait 15, .xfer 0x11 (.data 0x50), .pin 1, .ident .ready] := by decide

/-- V84. -/
theorem test_ident_failed : (after (exec .ident (at_ .bSelect [.data 0x11] [])) (idle [] 0)).bootErr =
    some ⟨.unrecognizedDeviceError, 0x11⟩ ∧
    (after (exec .ident (at_ .bSelect [.data 0x11] [])) (idle [] 0)).phase = .dead := by decide

/-- V88: a bus failure at `B_READ_ID`. -/
theorem test_rregId_error : (after (exec .rregId (at_ .bReadId [.err] [])) (idle [] 0)).bootErr =
    some ⟨.busError, 0x00⟩ := by decide

/-- V47 and V46: Celsius is stored whichever unit is asked for. -/
theorem test_ctemp : (after (exec (.ctemp 0x2580 .fahrenheit) (at_ .mCompute [] [])) (idle [] 0)).result =
    0x4053400000000000 ∧
    (after (exec (.ctemp 0x1F40 .fahrenheit) (at_ .mCompute [] [])) (idle [] 0)).lastTemperature = some 0x4029000000000000 := by
  decide +kernel

/-- V68 and V74. -/
theorem test_chum : (after (exec (.chum 0x6000) { at_ .mCompute [] [] with lastTemperature := some 0x4039000000000000 })
    (idle [] 0)).result = 0x4050A0429DD26BFC ∧
    (after (exec (.chum 0x6000) (at_ .mCompute [] [])) (idle [] 0)).err = ⟨.staleCompensationError, 0x00⟩ := by
  decide +kernel

/-! ## Witnesses: for each statement with hypotheses, states and operands that meet them -/

/-- The state after a step that has one. -/
theorem next_of (s : State) (h : (nextState? (step s)).isSome = true) : step s = .next (after (step s) s) := by
  unfold after
  cases hs : step s <;> simp_all [nextState?]

/-- As `next_of`, for an instruction. -/
theorem exec_next_of (i : Instr) (s : State) (h : (nextState? (exec i s)).isSome = true) :
    exec i s = .next (after (exec i s) s) := by
  unfold after
  cases hs : exec i s <;> simp_all [nextState?]

/-- The answers of a good cycle: one read finds the chip busy. -/
def good (p : Phase) : State := at_ p [.data 0x01, .data 0x00, .data 0x25, .data 0x80] [.ack, .ack]

/-- One busy answer is all the answers of a list of one status byte. -/
theorem one_busy (s : State) (first : xferAnswerAt s 0 = .data 0x01) :
    ∀ k b, [(0x01 : Byte)][k]? = some b → xferAnswerAt s k = .data b := by
  intro k b h
  match k with
  | 0 => cases h; exact first
  | k + 1 => cases h

theorem good_cycle (p : Phase) (port : List Byte) (t : Option Binary64) :
    GoodCycle { good p with port := port, lastTemperature := t } [0x01] 0x00 0x25 0x80 where
  within := (by decide : 1 < 3)
  busySet := by decide
  readyClear := by decide
  busyAnswers := one_busy _ rfl
  readyAnswer := rfl
  hiAnswer := rfl
  loAnswer := rfl
  configAnswer := rfl
  latchAnswer := rfl

/-- A cycle's state in which the control invariant holds. -/
def sound (p : Phase) : State :=
  { good p with
    ident := .ready, pinMode := .output, cs := p.level, cmd := 0x20, cycle := .humidity, lastTemperature := some (celsius 0x1900) }

theorem sound_inv (p : Phase) (hp : p.inCycle = true) (hn : p ≠ .mAbort) : ControlInv (sound p) where
  hardwired := (by decide : (0x00 : Byte) &&& configHardwired = 0)
  identity := by cases p <;> first | rfl | exact absurd hp (by decide)
  bootErr := rfl
  level := rfl
  output := by cases p <;> first | rfl | exact absurd hp (by decide)
  limit := (by decide : 1 ≤ 3)
  count := ⟨(by decide : 0 ≤ 3), fun _ => (by decide : 0 < 3)⟩
  stored := fun _ h => ⟨0x1900, (Option.some.inj h).symm⟩
  latched := fun _ => rfl
  error := fun h => absurd h hn

theorem witness_DecodeNamesEncodedInstruction : Instr.format .rdtC ≠ .internal ∧ (∀ a, Instr.ident ≠ .rreg a) ∧
    (∀ a v, Instr.ident ≠ .wreg a v) ∧ readableAddress 0x03 = false ∧ Event.legalFrame (.send 0x01 0x01 .ack) = false :=
  ⟨by decide, by simp, by simp, by decide, by decide⟩

theorem witness_EncodeReturnsDecodedBytes : decode .send2 [0x03, 0x23] = .ok (.wregConfig true false true) := by decide

theorem witness_CommandWordsDecode : (0x21 : Byte) ∉ [(0x10 : Byte), 0x11, 0x20, 0x30, 0x31, 0x40, 0x41] := by decide

theorem witness_ReservedCommandWordsRefused : (idle [0x21] 0).phase = .idle ∧ (idle [0x21] 0).port = 0x21 :: [] ∧
    decode .cmd8 [0x21] = .error (.reservedArg 0x21) := by decide

theorem witness_ConfigByteTable : (0x22 : Byte) &&& 0xDD = 0 := by decide

theorem witness_MeasurementFields : (0x1903 : Sample) >>> 2 = 0x1900 >>> 2 ∧ (0x180F : Sample) >>> 4 = 0x1800 >>> 4 := by
  decide

theorem witness_StepRunsFetchedInstruction : (idle [0x10] 0).phase = .idle ∧ (idle [0x10] 0).port = 0x10 :: [] ∧
    fetched (idle [0x10] 0) = some (.cmd8, [0x10]) ∧ decode .cmd8 [0x10] = .ok .rdtC ∧
    (good .mConfig).phase = .mConfig ∧ fetched (good .mConfig) = some (.send2, [0x03, 0x01]) ∧
    decode .send2 [0x03, 0x01] = .ok (.wregConfig false false false) ∧ (good .mConfig).configBits &&& 0xDD = 0 ∧
    (good .bReadId).phase = .bReadId ∧ (good .mPoll).phase = .mPoll ∧ (good .mLatch).phase = .mLatch ∧
    (good .mReadHi).phase = .mReadHi ∧ (good .mReadLo).phase = .mReadLo := by decide

theorem witness_ComputeStepResponds : (good .mCompute).phase = .mCompute ∧
    { good .mCompute with cycle := .temperature }.cycle = .temperature ∧ (sound .mCompute).phase = .mCompute ∧
    (sound .mCompute).cycle = .humidity ∧ (sound .mCompute).lastTemperature = some (celsius 0x1900) :=
  ⟨rfl, rfl, rfl, rfl, rfl⟩

theorem witness_DeadBlockIsStuck : (good .dead).phase = .dead := rfl

theorem witness_RdtStartsTemperatureCycle : (idle [] 0).phase = .idle := rfl

theorem witness_RdhChecksStoredTemperature : (idle [] 0).phase = .idle ∧ (idle [] 0).lastTemperature = none ∧
    { idle [] 0 with lastTemperature := some 0 }.phase = .idle ∧
    { idle [] 0 with lastTemperature := some 0 }.lastTemperature = some 0 := ⟨rfl, rfl, rfl, rfl⟩

theorem witness_HeatOnSetsHeatBit : (idle [] 0x20).phase = .idle ∧ (5 : Nat) ≠ 1 := ⟨rfl, by decide⟩

theorem witness_HeatOffClearsHeatBit : (idle [] 0x22).phase = .idle ∧ (0 : Nat) ≠ 1 := ⟨rfl, by decide⟩

theorem witness_FastOnSetsFastBit : (idle [] 0x02).phase = .idle ∧ (1 : Nat) ≠ 5 := ⟨rfl, by decide⟩

theorem witness_FastOffClearsFastBit : (idle [] 0x22).phase = .idle ∧ (7 : Nat) ≠ 5 := ⟨rfl, by decide⟩

theorem witness_ToggleSequenceKeepsLastOperands : (idle [] 0x22).phase = .idle ∧ (0 : Nat) ≠ 1 ∧ (0 : Nat) ≠ 5 :=
  ⟨rfl, by decide, by decide⟩

theorem witness_CommandPortHolds : Instr.format .heatOn = .cmd8 ∧ (good .mPoll).phase ≠ .idle ∧
    (good .mPoll).phase ≠ .dead ∧ step (good .mPoll) = .next (after (step (good .mPoll)) (good .mPoll)) ∧
    (idle [] 0).phase = .idle ∧ (idle [] 0).port = [] :=
  ⟨rfl, by decide, by decide, next_of _ (by decide), rfl, rfl⟩

theorem witness_RregMakesOneRead : nextXferAnswer (good .mPoll) = .data 0x01 ∧ (good .mPoll).phase ≠ .dead ∧
    nextXferAnswer (at_ .mReadHi [.noData] []) = .noData ∧ (at_ .mReadHi [.noData] []).phase.inCycle = true ∧
    (at_ .bReadId [.err] []).phase ∈ [Phase.bSelect, .bWait, .bReadId, .bRelease] ∧
    nextXferAnswer (at_ .bReadId [.err] []) = .err ∧
    (at_ .idle [.err] []).phase = .idle ∧ nextXferAnswer (at_ .idle [.err] []) = .err := by decide

theorem witness_WregMakesOneWrite : nextSendAnswer (good .mLatch) = .ack ∧ (good .mLatch).phase ≠ .dead ∧
    nextSendAnswer (at_ .mLatch [] [.err]) = .err ∧ (at_ .mLatch [] [.err]).phase.inCycle = true ∧
    (at_ .bWait [] [.err]).phase ∈ [Phase.bSelect, .bWait, .bReadId, .bRelease] ∧
    nextSendAnswer (at_ .bWait [] [.err]) = .err ∧
    (at_ .idle [] [.err]).phase = .idle ∧ nextSendAnswer (at_ .idle [] [.err]) = .err := by decide

theorem witness_PollStepChoosesSuccessor : (good .mPoll).phase = .mPoll ∧ (good .mPoll).phase ≠ .dead ∧
    nextXferAnswer (at_ .mPoll [.data 0xFE] []) = .data 0xFE ∧ (0xFE : Byte).getLsbD 0 = false ∧
    nextXferAnswer (at_ .mPoll [.data 0x01] []) = .data 0x01 ∧ (0x01 : Byte).getLsbD 0 = true ∧
    { at_ .mPoll [.data 0x01] [] with pollCnt := 2 }.pollCnt + 1 = (at_ .mPoll [] []).pollLimit ∧
    (at_ .mPoll [.data 0x01] []).pollCnt + 1 ≠ (at_ .mPoll [] []).pollLimit ∧
    nextXferAnswer (at_ .mPoll [.noData] []) = .noData := by decide

theorem witness_DataReadSteps : (good .mReadHi).phase = .mReadHi ∧ (good .mReadLo).phase = .mReadLo ∧
    (good .mReadHi).phase ≠ .dead ∧ nextXferAnswer (good .mReadHi) = .data 0x01 ∧
    nextXferAnswer (at_ .mReadLo [.noData] []) = .noData ∧
    step (good .mReadHi) = .next (after (step (good .mReadHi)) (good .mReadHi)) ∧
    (after (step (good .mReadHi)) (good .mReadHi)).phase = .mReadLo :=
  ⟨rfl, rfl, by decide, by decide, by decide, next_of _ (by decide), by decide⟩

theorem witness_ConfigStepWritesOptions : (good .mConfig).phase = .mConfig ∧ (good .mConfig).phase ≠ .dead ∧
    nextSendAnswer (good .mConfig) = .ack ∧ nextSendAnswer (at_ .mConfig [] [.err]) = .err := by decide

theorem witness_LatchStepWritesZero : (good .mLatch).phase = .mLatch ∧ (good .mLatch).phase ≠ .dead ∧
    nextSendAnswer (good .mLatch) = .ack ∧ nextSendAnswer (at_ .mLatch [] [.err]) = .err := by decide

theorem witness_SelectAndWakeSteps : (good .mSelect).phase = .mSelect ∧ (good .mWait).phase = .mWait := by decide

theorem witness_ReleaseStepAssemblesSample : (good .mRelease).phase = .mRelease := rfl

theorem witness_AbortStepReleasesThenReports : (good .mAbort).phase = .mAbort ∧ (good .mAbort).err.code = .busError ∧
    { good .mAbort with err := ⟨.timeoutError, 0x00⟩ }.err.code = .timeoutError := ⟨rfl, rfl, rfl⟩

theorem witness_PollLoopOutcomes : (good .mPoll).phase ≠ .dead ∧ (∀ b ∈ [(0x01 : Byte)], b.getLsbD 0 = true) ∧
    (∀ k b, [(0x01 : Byte)][k]? = some b → xferAnswerAt (good .mPoll) k = .data b) ∧
    [(0x01 : Byte)].length < (good .mPoll).pollLimit ∧ (0x00 : Byte).getLsbD 0 = false ∧
    xferAnswerAt (good .mPoll) [(0x01 : Byte)].length = .data 0x00 :=
  ⟨by decide, by decide, one_busy _ rfl, by decide, by decide, by decide⟩

theorem witness_PollLoopOutcomes_failure : (at_ .mPoll [.noData] []).phase ≠ .dead ∧
    (∀ b ∈ ([] : List Byte), b.getLsbD 0 = true) ∧ ([] : List Byte).length < (at_ .mPoll [.noData] []).pollLimit ∧
    xferAnswerAt (at_ .mPoll [.noData] []) ([] : List Byte).length = .noData := by decide

theorem witness_PollLoopOutcomes_timeout : ∃ s : State, s.phase ≠ .dead ∧ (∀ b ∈ [(0x01 : Byte)], b.getLsbD 0 = true) ∧
    (∀ k b, [(0x01 : Byte)][k]? = some b → xferAnswerAt s k = .data b) ∧ [(0x01 : Byte)].length = s.pollLimit ∧
    1 ≤ s.pollLimit :=
  ⟨{ good .mPoll with pollLimit := 1 }, by decide, by decide, one_busy _ rfl, by decide, by decide⟩

/-- The last allowed read finds the chip ready. -/
theorem witness_PollLoopOutcomes_last_ready : ∃ s : State, s.phase ≠ .dead ∧
    (∀ b ∈ [(0x01 : Byte)], b.getLsbD 0 = true) ∧ (∀ k b, [(0x01 : Byte)][k]? = some b → xferAnswerAt s k = .data b) ∧
    [(0x01 : Byte)].length < s.pollLimit ∧ [(0x01 : Byte)].length + 1 = s.pollLimit ∧ (0x00 : Byte).getLsbD 0 = false ∧
    xferAnswerAt s [(0x01 : Byte)].length = .data 0x00 :=
  ⟨{ good .mPoll with pollLimit := 2 }, by decide, by decide, one_busy _ rfl, by decide, by decide,
    by decide, by decide⟩

/-- The last allowed read fails: the only one, and one after a busy answer. -/
theorem witness_PollLoopOutcomes_last_failure :
    (∃ s : State, s.phase ≠ .dead ∧ ([] : List Byte).length < s.pollLimit ∧ ([] : List Byte).length + 1 = s.pollLimit ∧
      xferAnswerAt s ([] : List Byte).length = .err) ∧
    ∃ s : State, s.phase ≠ .dead ∧ (∀ b ∈ [(0x01 : Byte)], b.getLsbD 0 = true) ∧
      (∀ k b, [(0x01 : Byte)][k]? = some b → xferAnswerAt s k = .data b) ∧ [(0x01 : Byte)].length < s.pollLimit ∧
      [(0x01 : Byte)].length + 1 = s.pollLimit ∧ xferAnswerAt s [(0x01 : Byte)].length = .noData :=
  ⟨⟨{ at_ .mPoll [.err] [] with pollLimit := 1 }, by decide, by decide, by decide, by decide⟩,
    ⟨{ at_ .mPoll [.data 0x01, .noData] [] with pollLimit := 2 }, by decide, by decide,
      one_busy _ rfl, by decide, by decide, by decide⟩⟩

theorem witness_SuccessfulCycle : (good .mSelect).phase ≠ .dead ∧ GoodCycle (good .mSelect) [0x01] 0x00 0x25 0x80 :=
  ⟨by decide, good_cycle .mSelect [] none⟩

theorem witness_CycleAlwaysReleasesPin : (good .mSelect).phase ≠ .dead ∧ 1 ≤ (good .mSelect).pollLimit := by decide

theorem witness_CycleLeavesDeviceHandle : exec (measureInstr .humidity) (good .mSelect) =
    .next (after (exec (measureInstr .humidity) (good .mSelect)) (good .mSelect)) := exec_next_of _ _ (by decide)

theorem witness_CycleIgnoresLeftovers : (good .mSelect).phase ≠ .dead ∧ 1 ≤ (good .mSelect).pollLimit ∧
    (∃ s' : State, s' = { good .mSelect with
      unit := .fahrenheit, pollCnt := 9, statusByte := 0xFF, hi := 0xFF, lo := 0xFF, idRaw := 0x51, raw16 := 0xFFFF,
      result := 1, err := ⟨.timeoutError, 0x00⟩, cycle := .temperature }) ∧
    exec (measureInstr .humidity) (good .mSelect) =
      .next (after (exec (measureInstr .humidity) (good .mSelect)) (good .mSelect)) ∧
    (after (exec (measureInstr .humidity) (good .mSelect)) (good .mSelect)).phase = .mCompute :=
  ⟨by decide, by decide, ⟨_, rfl⟩, exec_next_of _ _ (by decide), by decide⟩

theorem witness_CtempStoresCelsius : (good .mCompute).phase ≠ .dead := by decide

theorem witness_ChumComputesHumidity : (sound .mCompute).phase ≠ .dead ∧
    (sound .mCompute).lastTemperature = some (celsius 0x1900) ∧ (good .mCompute).lastTemperature = none ∧
    (good .mCompute).phase.inCycle = true ∧ (good .bWait).lastTemperature = none ∧
    (good .bWait).phase ∈ [Phase.bSelect, .bWait, .bReadId, .bRelease] ∧ (good .idle).lastTemperature = none ∧
    (good .idle).phase = .idle := ⟨by decide, rfl, rfl, rfl, rfl, by decide, rfl, rfl⟩

theorem witness_ReadIdStepJudgesChip : (good .bReadId).phase = .bReadId ∧ (good .bReadId).phase ≠ .dead ∧
    nextXferAnswer (at_ .bReadId [.data 0x5F] []) = .data 0x5F ∧ (0x5F : Byte) &&& 0xF0 = 0x50 ∧
    nextXferAnswer (at_ .bReadId [.data 0x60] []) = .data 0x60 ∧ (0x60 : Byte) &&& 0xF0 ≠ 0x50 ∧
    nextXferAnswer (at_ .bReadId [.err] []) = .err := by decide

theorem witness_BootSelectAndWake : (good .bSelect).phase = .bSelect ∧ (good .bWait).phase = .bWait ∧
    (good .bWait).phase ≠ .bSelect ∧ step (good .bWait) = .next (after (step (good .bWait)) (good .bWait)) :=
  ⟨rfl, rfl, by decide, next_of _ (by decide)⟩

theorem witness_BootReleaseSignals : (good .bRelease).phase = .bRelease ∧ (good .bRelease).ident ≠ .ready ∧
    { good .bRelease with ident := .ready }.phase = .bRelease ∧ { good .bRelease with ident := .ready }.ident = .ready := by
  decide

theorem witness_IdentBootTraces : (good .bSelect).phase = .bSelect ∧ (good .bSelect).phase ≠ .dead ∧
    nextXferAnswer (at_ .bSelect [.data 0x50] []) = .data 0x50 ∧ (0x50 : Byte) &&& 0xF0 = 0x50 ∧
    nextXferAnswer (at_ .bSelect [.data 0x4F] []) = .data 0x4F ∧ (0x4F : Byte) &&& 0xF0 ≠ 0x50 ∧
    nextXferAnswer (at_ .bSelect [.noData] []) = .noData := by decide

theorem witness_IdentOnlyReads : exec .ident (good .bSelect) = .next (after (exec .ident (good .bSelect)) (good .bSelect)) :=
  exec_next_of _ _ (by decide)

theorem witness_IdentityCheckRunsOnce :
    (step (good .bWait) = .next (after (step (good .bWait)) (good .bWait)) ∧
      (after (step (good .bWait)) (good .bWait)).phase ∈ [Phase.bWait, .bReadId, .bRelease]) ∧
    step (good .bRelease) = .next (after (step (good .bRelease)) (good .bRelease)) ∧
    (after (step (good .bRelease)) (good .bRelease)).phase = .dead :=
  ⟨⟨next_of _ (by decide), by decide⟩, next_of _ (by decide), by decide⟩

theorem witness_ControlRegistersHaveOneWriter :
    (step (idle [0x31] 0) = .next (after (step (idle [0x31] 0)) (idle [0x31] 0)) ∧
      (after (step (idle [0x31] 0)) (idle [0x31] 0)).configBits ≠ (idle [0x31] 0).configBits) ∧
    (step (good .bReadId) = .next (after (step (good .bReadId)) (good .bReadId)) ∧
      (after (step (good .bReadId)) (good .bReadId)).ident ≠ (good .bReadId).ident ∧
      (after (step (good .bReadId)) (good .bReadId)).bootErr ≠ (good .bReadId).bootErr) ∧
    step (good .mSelect) = .next (after (step (good .mSelect)) (good .mSelect)) ∧
    (after (step (good .mSelect)) (good .mSelect)).cs ≠ (good .mSelect).cs :=
  ⟨⟨next_of _ (by decide), by decide⟩, ⟨next_of _ (by decide), by decide, by decide⟩, next_of _ (by decide), by decide⟩

/-- A temperature cycle about to compute. -/
def computing : State := { good .mCompute with cycle := .temperature }

theorem witness_OnlyCtempStoresTemperature :
    exec (.ctemp 0x1900 .celsius) computing = .next { computing with
      lastTemperature := some (celsius 0x1900), result := celsius 0x1900 } ∧
    some (celsius 0x1900) ≠ computing.lastTemperature ∧
    step computing = .next (after (step computing) computing) ∧
    (after (step computing) computing).lastTemperature ≠ computing.lastTemperature ∧
    step { computing with lastTemperature := some 0 } =
      .next (after (step { computing with lastTemperature := some 0 }) { computing with lastTemperature := some 0 }) :=
  ⟨rfl, by simp [computing, good, at_, State.resetWith], next_of _ (by decide +kernel), by decide +kernel,
    next_of _ (by decide +kernel)⟩

/-- A failed read and the step after it. -/
theorem witness_StepMakesAtMostOneTransaction : ∃ s t u : State, step s = .next t ∧ step t = .next u ∧
    t.trace = s.trace ++ [.xfer 0x00 .noData] :=
  ⟨at_ .mPoll [.noData] [], after (step (at_ .mPoll [.noData] [])) (good .idle), _, rfl, rfl, by decide⟩

/-- A failed write and the step after it. -/
theorem witness_StepMakesAtMostOneTransaction_write : ∃ s t u : State, step s = .next t ∧ step t = .next u ∧
    t.trace = s.trace ++ [.send 0x01 0x00 .err] :=
  ⟨at_ .mLatch [] [.err], after (step (at_ .mLatch [] [.err])) (good .idle), _, rfl, rfl, by decide⟩

theorem witness_ResetMeetsInvariants : 1 ≤ 1 := by decide

theorem witness_StepKeepsControlInvariant : ControlInv (sound .mPoll) ∧
    step (sound .mPoll) = .next (after (step (sound .mPoll)) (sound .mPoll)) :=
  ⟨sound_inv .mPoll rfl (by decide), next_of _ (by decide)⟩

/-- An awake window with the CONFIG write done. -/
def opened : State := { sound .mPoll with trace := [.cmd 0x10, .rsp 0 0 0x00, .cmd 0x20, .pin 0, .wait 15, .send 0x03 0x01 .ack] }

theorem opened_inv : ControlInv opened := by
  have h := sound_inv .mPoll rfl (by decide)
  exact ⟨h.1, h.2, h.3, h.4, h.5, h.6, h.7, h.8, h.9, h.10⟩

theorem opened_next : step opened = .next (after (step opened) opened) := next_of _ (by decide)

theorem witness_StepKeepsAccessWindows : ControlInv opened ∧ window opened.trace = opened.phase.window ∧
    step opened = .next (after (step opened) opened) := ⟨opened_inv, by decide, opened_next⟩

theorem witness_StepKeepsResponsesPaired : responsesPaired opened ∧ step opened = .next (after (step opened) opened) :=
  ⟨rfl, opened_next⟩

theorem witness_StepKeepsFramesLegal : opened.configBits &&& 0xDD = 0 ∧ opened.trace.all Event.legalFrame = true ∧
    step opened = .next (after (step opened) opened) := ⟨by decide, by decide, opened_next⟩

theorem witness_StepKeepsStaleRule : ControlInv opened ∧ staleRule opened ∧
    step opened = .next (after (step opened) opened) := ⟨opened_inv, ⟨rfl, fun _ => rfl⟩, opened_next⟩

theorem witness_ReachableStatesAreSafe : Reachable (State.resetWith 3 [0x10] [] []) := .reset 3 [0x10] [] [] (by decide)

theorem witness_SequencerRefinesMeasure : (good .mSelect).phase = .mSelect ∧ 1 ≤ (good .mSelect).pollLimit := by decide

theorem witness_CommandInProgressResponds : ControlInv (sound .mSelect) ∧ (sound .mSelect).phase.inCycle = true :=
  ⟨sound_inv .mSelect rfl (by decide), rfl⟩

theorem witness_TemperatureCommandEndToEnd : ∃ s : State, s.phase = .idle ∧ s.port = 0x11 :: [] ∧
    GoodCycle s [0x01] 0x00 0x25 0x80 := ⟨{ good .idle with port := [0x11], lastTemperature := none }, rfl, rfl,
      good_cycle .idle [0x11] none⟩

theorem witness_HumidityCommandEndToEnd : ∃ s : State, s.lastTemperature = some (celsius 0x1900) ∧ s.phase = .idle ∧
    s.port = 0x20 :: [] ∧ GoodCycle s [0x01] 0x00 0x25 0x80 :=
  ⟨{ good .idle with port := [0x20], lastTemperature := some (celsius 0x1900) }, rfl, rfl, rfl,
    good_cycle .idle [0x20] (some (celsius 0x1900))⟩

end Sys2Proof.Tests
end

section
/-! PROOF. Which transition writes which control register, and the control invariant clause by clause
(spec/10_state.md rules R21 to R27 and R38 to R40). -/

namespace Sys2Proof.Machine

/-- The values the four toggles can give an option byte (R205 to R208). -/
def toggleResults (bits : Byte) : List Byte := [bits &&& 0xFD, bits ||| 0x02, bits &&& 0xDF, bits ||| 0x20]

theorem toggleResults_hardwired (bits : Byte) (clear : bits &&& configHardwired = 0) :
    ∀ b ∈ toggleResults bits, b &&& configHardwired = 0 := by
  rcases configBits_four bits clear with rfl | rfl | rfl | rfl <;> decide

/-- The one way a request can be latched for a humidity cycle is with a temperature stored (R223, R225). -/
theorem latched_humidity {s : State} (latch : latched s = true) (kind : s.cycle = .humidity) :
    s.lastTemperature ≠ none := by
  intro stored
  simp [latched, kind, State.haveTemperature, stored] at latch

/-- With no failure recorded while the check is pending, `boot_err` is empty (R25). -/
theorem bootErr_of_pending {e : Option ErrInfo} (h : bootErrOk .pending e = true) : e = none := by
  cases e with
  | none => rfl
  | some => simp [bootErrOk] at h

namespace Transition

variable {s t : State}

/-! ### Who writes what -/

theorem configBits_cases (h : Transition s t) : t.configBits = s.configBits ∨
    (s.phase = .idle ∧ (∃ w rest, s.port = w :: rest ∧ w ∈ [(0x30 : Byte), 0x31, 0x40, 0x41]) ∧
      t.configBits ∈ toggleResults s.configBits) := by
  cases h with
  | heatOff rest at_ offered | heatOn rest at_ offered | fastOff rest at_ offered | fastOn rest at_ offered =>
    exact .inr ⟨at_, ⟨_, rest, offered, by decide⟩, by simp [toggleResults]⟩
  | _ => exact .inl rfl

theorem identity_cases (h : Transition s t) : (t.ident = s.ident ∧ t.bootErr = s.bootErr) ∨
    (s.phase = .bReadId ∧
      ((t.ident = .ready ∧ t.bootErr = s.bootErr) ∨ (t.ident = .failed ∧ bootErrOk .failed t.bootErr = true))) := by
  cases h with
  | idGood b at_ => exact .inr ⟨at_, .inl ⟨rfl, rfl⟩⟩
  | idBad b at_ _ bad => exact .inr ⟨at_, .inr ⟨rfl, by simp [bootErrOk, bad]⟩⟩
  | idFails at_ => exact .inr ⟨at_, .inr ⟨rfl, rfl⟩⟩
  | _ => exact .inl ⟨rfl, rfl⟩

theorem cs_cases (h : Transition s t) :
    t.cs = s.cs ∨ s.phase ∈ [Phase.bSelect, .bRelease, .mSelect, .mRelease, .mAbort] := by
  cases h with
  | bSelect at_ | bootReady at_ | bootFailed at_ | mSelect at_ | mRelease at_ | mAbort at_ =>
    exact .inr (by simp [at_])
  | _ => exact .inl rfl

theorem lastTemperature_cases (h : Transition s t) : t.lastTemperature = s.lastTemperature ∨
    (s.phase = .mCompute ∧ s.cycle = .temperature ∧ t.lastTemperature = some (celsius s.raw16)) := by
  cases h with
  | temperature at_ kind => exact .inr ⟨at_, kind, rfl⟩
  | _ => exact .inl rfl

theorem pollLimit_eq (h : Transition s t) : t.pollLimit = s.pollLimit := by
  cases h <;> rfl

/-! ### The clauses of the control invariant -/

theorem keeps_hardwired (h : Transition s t) (clear : s.configBits &&& configHardwired = 0) :
    t.configBits &&& configHardwired = 0 := by
  rcases h.configBits_cases with same | ⟨-, -, toggled⟩
  · rw [same]; exact clear
  · exact toggleResults_hardwired _ clear _ toggled

theorem keeps_identity (h : Transition s t) (identity : s.phase.identOk s.ident = true) :
    t.phase.identOk t.ident = true := by
  cases h with
  | idGood | idBad | idFails => rfl
  | bootFailed at_ notReady =>
    -- `B_RELEASE` begins with the check decided, so what is not READY has FAILED (R40(b)).
    cases decided : s.ident <;> simp_all [Phase.identOk]
  | _ => simp_all [Phase.identOk]

theorem keeps_bootErr (h : Transition s t) (identity : s.phase.identOk s.ident = true)
    (bootErr : bootErrOk s.ident s.bootErr = true) : bootErrOk t.ident t.bootErr = true := by
  rcases h.identity_cases with ⟨hi, he⟩ | ⟨at_, ⟨hi, he⟩ | ⟨hi, he⟩⟩
  · rw [hi, he]; exact bootErr
  · have pending : s.ident = .pending := by simpa [at_, Phase.identOk] using identity
    rw [pending] at bootErr
    rw [hi, he, bootErr_of_pending bootErr]; rfl
  · rw [hi]; exact he

theorem keeps_level (h : Transition s t) (request : s.phase.inCycle = true → latched s = true)
    (level : s.cs = s.phase.level) : t.cs = t.phase.level := by
  cases h with
  | noTemperature at_ kind stored => exact absurd stored (latched_humidity (request (by rw [at_]; rfl)) kind)
  | _ => simp_all [Phase.level]

theorem keeps_output (h : Transition s t) (output : s.pinMode = (if s.phase = .bSelect then .unset else .output)) :
    t.pinMode = (if t.phase = .bSelect then .unset else .output) := by
  cases h with
  | bSelect => rfl
  | _ => simp_all

theorem keeps_count (h : Transition s t) (limit : 1 ≤ s.pollLimit)
    (count : s.pollCnt ≤ s.pollLimit ∧ (s.phase = .mPoll → s.pollCnt < s.pollLimit)) :
    t.pollCnt ≤ t.pollLimit ∧ (t.phase = .mPoll → t.pollCnt < t.pollLimit) := by
  obtain ⟨atMost, below⟩ := count
  cases h with
  | config => exact ⟨Nat.zero_le _, fun _ => limit⟩
  | pollReady b at_ | pollTimeout b at_ => exact ⟨below at_, nofun⟩
  | pollAgain b at_ _ _ more => exact ⟨below at_, fun _ => Nat.lt_of_le_of_ne (below at_) more⟩
  | _ => exact ⟨atMost, by simp_all⟩

theorem keeps_stored (h : Transition s t)
    (stored : ∀ v, s.lastTemperature = some v → ∃ raw16 : Sample, v = celsius raw16) :
    ∀ v, t.lastTemperature = some v → ∃ raw16 : Sample, v = celsius raw16 := by
  intro v hv
  rcases h.lastTemperature_cases with same | ⟨-, -, computed⟩
  · exact stored v (same ▸ hv)
  · exact ⟨s.raw16, Option.some.inj (hv.symm.trans computed)⟩

theorem keeps_latched (h : Transition s t) (request : s.phase.inCycle = true → latched s = true) :
    t.phase.inCycle = true → latched t = true := by
  cases h with
  | rdtC | rdtF => exact fun _ => rfl
  | rdh rest v at_ offered stored => exact fun _ => by simp [latched, State.haveTemperature, stored, wordRdh]
  | _ => simp_all [Phase.inCycle, latched, State.haveTemperature]

theorem keeps_error (h : Transition s t) (request : s.phase.inCycle = true → latched s = true) :
    t.phase = .mAbort → t.err = ⟨.busError, 0x00⟩ ∨ t.err = ⟨.timeoutError, 0x00⟩ := by
  cases h with
  | configFails | pollFails | latchFails | readHiFails | readLoFails => exact fun _ => .inl rfl
  | pollTimeout => exact fun _ => .inr rfl
  | noTemperature at_ kind stored => exact absurd stored (latched_humidity (request (by rw [at_]; rfl)) kind)
  | _ => simp_all

end Transition

theorem step_keeps_controlInv {s t : State} (inv : ControlInv s) (taken : step s = .next t) : ControlInv t := by
  have move := step_transition s t taken
  exact {
    hardwired := move.keeps_hardwired inv.hardwired
    identity := move.keeps_identity inv.identity
    bootErr := move.keeps_bootErr inv.identity inv.bootErr
    level := move.keeps_level inv.latched inv.level
    output := move.keeps_output inv.output
    limit := move.pollLimit_eq ▸ inv.limit
    count := move.keeps_count inv.limit inv.count
    stored := move.keeps_stored inv.stored
    latched := move.keeps_latched inv.latched
    error := move.keeps_error inv.latched }

/-- Settles O50, clause by clause over the transitions of a step. -/
theorem stepKeepsControlInvariant : Obligations.StepKeepsControlInvariant :=
  fun _ _ => step_keeps_controlInv

/-- Settles O45, from the writers of each register over the transitions of a step. -/
theorem controlRegistersHaveOneWriter : Obligations.ControlRegistersHaveOneWriter := by
  intro s t taken
  have move := step_transition s t taken
  refine ⟨fun changed => ?_, fun changed => ?_, fun changed => ?_, fun changed => move.cs_cases.resolve_left changed⟩
  · obtain ⟨idle, offered, -⟩ := move.configBits_cases.resolve_left changed
    exact ⟨idle, offered⟩
  · exact (move.identity_cases.resolve_left fun same => changed same.1).1
  · exact (move.identity_cases.resolve_left fun same => changed same.2).1

end Sys2Proof.Machine
end

section
/-! PROOF. The rules over the trace, kept by every transition (spec/10_state.md rule R40(d), spec/45_host_commands.md
rules R228, R229). -/

namespace Sys2Proof.Machine

/-- With the hardwired bits clear, the CONFIG byte is in the table of R95. -/
theorem configByte_mem (c : CycleKind) (bits : Byte) (clear : bits &&& configHardwired = 0) :
    configByte c bits ∈ configBytes := by
  rcases configBits_four bits clear with rfl | rfl | rfl | rfl <;> cases c <;> decide

/-- A temperature cycle was requested by one of the two `RDT` words (R222, R226). -/
theorem latched_temperature {s : State} (latch : latched s = true) (kind : s.cycle = .temperature) :
    s.cmd = wordRdtC ∨ s.cmd = wordRdtF := by
  have requests : (s.cmd = wordRdtC ∧ s.unit = .celsius) ∨ (s.cmd = wordRdtF ∧ s.unit = .fahrenheit) := by
    simpa [latched, kind] using latch
  exact requests.imp And.left And.left

/-- A humidity cycle was requested by `RDH` (R223). -/
theorem latched_humidity_cmd {s : State} (latch : latched s = true) (kind : s.cycle = .humidity) :
    s.cmd = wordRdh := by
  simp_all [latched]

/-- No error is reported with the code of success (R107, R240). -/
theorem errCode_ne_ok (e : ErrCode) : (e.code == codeOk) = false := by
  cases e <;> rfl

namespace Transition

variable {s t : State}

/-- Bus requests stand only where the pin is asserted and the wake wait is over (R124, R40(d)). -/
theorem keeps_windows (h : Transition s t) (request : s.phase.inCycle = true → latched s = true)
    (windows : window s.trace = s.phase.window) : window t.trace = t.phase.window := by
  cases h with
  | noTemperature at_ kind stored => exact absurd stored (latched_humidity (request (by rw [at_]; rfl)) kind)
  | _ => simp_all [window_append, Phase.window, Window.next]

/-- A command accepted is answered in its own step or opens a cycle, and the response that closes the cycle is its
answer (R228). -/
theorem keeps_paired (h : Transition s t) (paired : responsesPaired s) : responsesPaired t := by
  cases h <;> simp_all [responsesPaired, Phase.inCycle, List.countP_append, List.countP_cons, Event.isCmd, Event.isRsp]

/-- Every address is a constant of its step, and the one byte that varies is in the table of R95 (R105, R130). -/
theorem keeps_frames (h : Transition s t) (clear : s.configBits &&& configHardwired = 0)
    (frames : s.trace.all Event.legalFrame = true) : t.trace.all Event.legalFrame = true := by
  cases h with
  | config | configFails =>
    have row : configBytes.contains (configByte s.cycle s.configBits) = true :=
      List.contains_iff_mem.mpr (configByte_mem _ _ clear)
    simp_all [Event.legalFrame]
  | _ => simp_all [Event.legalFrame, regStatus]

/-- `OK` answers an `RDT` word exactly in the step that stores a temperature (R229): the word in progress is the last
one accepted, and the latched request says which it is. -/
theorem keeps_answered (h : Transition s t) (request : s.phase.inCycle = true → latched s = true)
    (stale : staleRule s) : (temperatureSeen t.trace).2 = t.haveTemperature := by
  obtain ⟨answered, last⟩ := stale
  simp only [State.haveTemperature] at answered ⊢
  cases h with
  | temperature at_ kind =>
    have cycling : s.phase.inCycle = true := by rw [at_]; rfl
    rcases latched_temperature (request cycling) kind with word | word <;>
      simp [temperatureSeen_append, temperatureNext, last cycling, word, codeOk]
  | humidity v at_ kind stored =>
    have cycling : s.phase.inCycle = true := by rw [at_]; rfl
    simp [temperatureSeen_append, temperatureNext, answered, last cycling, latched_humidity_cmd (request cycling) kind,
      wordRdh, wordRdtC, wordRdtF]
  | mAbort => simp [temperatureSeen_append, temperatureNext, errCode_ne_ok, answered]
  | _ => simp [temperatureSeen_append, temperatureNext, codeOk, wordRdtC, wordRdtF, answered]

/-- No command is accepted while one is in progress, so the last one accepted is the one in progress (R220, R229). -/
theorem keeps_lastCommand (h : Transition s t)
    (last : s.phase.inCycle = true → (temperatureSeen s.trace).1 = s.cmd) :
    t.phase.inCycle = true → (temperatureSeen t.trace).1 = t.cmd := by
  cases h <;> simp_all [temperatureSeen_append, temperatureNext, Phase.inCycle]

end Transition

theorem step_keeps_traceInv {s t : State} (control : ControlInv s) (inv : TraceInv s) (taken : step s = .next t) :
    TraceInv t := by
  have move := step_transition s t taken
  exact {
    windows := move.keeps_windows control.latched inv.windows
    paired := move.keeps_paired inv.paired
    frames := move.keeps_frames control.hardwired inv.frames
    temperature := ⟨move.keeps_answered control.latched inv.temperature, move.keeps_lastCommand inv.temperature.2⟩ }

end Sys2Proof.Machine
end

section
/-! PROOF. The reset state, and the states a run reaches (spec/10_state.md rules R37 to R40, spec/43_identity_check.md
rule R195). -/

namespace Sys2Proof.Machine

theorem resetWith_controlInv (limit : Nat) (port : List Byte) (xfers : List XferAnswer) (sends : List SendAnswer)
    (positive : 1 ≤ limit) : ControlInv (State.resetWith limit port xfers sends) where
  hardwired := BitVec.zero_and
  identity := rfl
  bootErr := rfl
  level := rfl
  output := rfl
  limit := positive
  count := ⟨Nat.zero_le _, nofun⟩
  stored := nofun
  latched := nofun
  error := nofun

theorem resetWith_traceInv (limit : Nat) (port : List Byte) (xfers : List XferAnswer) (sends : List SendAnswer) :
    TraceInv (State.resetWith limit port xfers sends) where
  windows := rfl
  paired := rfl
  frames := rfl
  temperature := ⟨rfl, nofun⟩

theorem pollLimit_positive : 1 ≤ Config.pollLimit := Nat.le_add_left 1 _

/-- Settles O48, by evaluation; the limit is a successor. -/
theorem resetValues : Obligations.ResetValues :=
  ⟨rfl, rfl, rfl, rfl, rfl, rfl, rfl, rfl, pollLimit_positive⟩

/-- Settles O49, from the invariants at reset for all limits and offers. -/
theorem resetMeetsInvariants : Obligations.ResetMeetsInvariants :=
  ⟨fun limit port xfers sends positive =>
      ⟨resetWith_controlInv limit port xfers sends positive, resetWith_traceInv limit port xfers sends⟩,
    resetWith_controlInv _ _ _ _ pollLimit_positive, resetWith_traceInv _ _ _ _⟩

/-- The induction over a run: both invariants hold at reset and every step keeps them. -/
theorem Reachable.invariants {s : State} (reached : Reachable s) : ControlInv s ∧ TraceInv s := by
  induction reached with
  | reset limit port xfers sends positive =>
    exact ⟨resetWith_controlInv limit port xfers sends positive, resetWith_traceInv limit port xfers sends⟩
  | step s t _ taken ih => exact ⟨step_keeps_controlInv ih.1 taken, step_keeps_traceInv ih.1 ih.2 taken⟩

/-- Every instruction is an effect that takes place unless the block is dead (R195). -/
theorem exec_performs (i : Instr) : ∃ effect, ∀ s, exec i s = perform effect s := by
  cases i <;> exact ⟨_, fun _ => rfl⟩

theorem exec_alive (i : Instr) (s : State) (alive : s.phase ≠ .dead) : ∃ t, exec i s = .next t := by
  obtain ⟨effect, performs⟩ := exec_performs i
  exact ⟨effect s, by rw [performs, perform_alive _ s alive]⟩

theorem computeStep_alive (s : State) (alive : s.phase ≠ .dead) : ∃ t, computeStep s = .next t := by
  obtain ⟨t, computed⟩ := exec_alive (computation s) s alive
  exact ⟨respondResult t, by rw [computeStep, computed, andThen]⟩

/-- An idle block has a next state unless a reserved word stands at the port (R104). -/
theorem idleStep_cases (s : State) (at_ : s.phase = .idle) : (∃ t, idleStep s = .next t) ∨
    ∃ w rest r, s.port = w :: rest ∧ decodeCommand w = .error r := by
  unfold idleStep
  split
  · exact .inl ⟨s, rfl⟩
  · next w rest offered =>
    cases decoded : decodeCommand w with
    | ok i => exact .inl (exec_alive i { s with port := rest } (by simp [at_]))
    | error r => exact .inr ⟨w, rest, r, offered, decoded⟩

/-- The only stops of the block: `DEAD`, and a reserved word at the port of an idle block (R195, R104). -/
theorem step_or_stop (s : State) : (∃ t, step s = .next t) ∨ s.phase = .dead ∨
    (s.phase = .idle ∧ ∃ w rest r, s.port = w :: rest ∧ decode .cmd8 [w] = .error r) := by
  cases at_ : s.phase with
  | dead => exact .inr (.inl rfl)
  | idle =>
    rcases idleStep_cases s at_ with ⟨t, taken⟩ | reserved
    · exact .inl ⟨t, by simp [step, phaseStep, at_, taken]⟩
    · exact .inr (.inr ⟨rfl, reserved⟩)
  | mCompute =>
    obtain ⟨t, taken⟩ := computeStep_alive s (by simp [at_])
    exact .inl ⟨t, by simp [step, phaseStep, at_, taken]⟩
  | bReadId | mPoll | mLatch | mReadHi | mReadLo =>
    left
    simpa [step, phaseStep, at_] using exec_alive _ s (by simp [at_])
  | _ => exact .inl ⟨_, by simp only [step, phaseStep, at_]; rfl⟩

/-- Settles O55: the invariants by induction over the run, and the next state by the phase. -/
theorem reachableStatesAreSafe : Obligations.ReachableStatesAreSafe :=
  fun s reached => ⟨reached.invariants.1, reached.invariants.2, step_or_stop s⟩

end Sys2Proof.Machine
end

section
/-! PROOF. A step about a word or a frame performs what it decodes to (spec/10_state.md rule R24). -/

namespace Sys2Proof.Machine

theorem decodeCommand_wellFormed {w : Byte} {i : Instr} (decoded : decodeCommand w = .ok i) : i.wellFormed = true := by
  have every : ∀ p ∈ commandTable, p.2.wellFormed = true := by decide
  exact every _ (decodeCommand_ok w i decoded)

theorem step_idle {s : State} {w : Byte} {rest : List Byte} {i : Instr} (at_ : s.phase = .idle)
    (offered : s.port = w :: rest) (decoded : decodeCommand w = .ok i) : step s = exec i { s with port := rest } := by
  simp [step, phaseStep, at_, idleStep, offered, decoded]

/-- The frame the step `M_CONFIG` issues is named `WREG.CONFIG`, with the byte's bits FAST, TEMP, HEAT (R93, R95). -/
theorem decodeSend_configByte (c : CycleKind) (bits : Byte) (clear : bits &&& configHardwired = 0) :
    decodeSend regConfig (configByte c bits) =
      .wregConfig (bits.getLsbD 5) (decide (c = .temperature)) (bits.getLsbD 1) := by
  rcases configBits_four bits clear with rfl | rfl | rfl | rfl <;> cases c <;> decide

/-- `WREG.CONFIG` rebuilds from its three bits the CONFIG byte they were read from (R93, R94). -/
theorem exec_wregConfig (c : CycleKind) (bits : Byte) (clear : bits &&& configHardwired = 0) (s : State) :
    exec (.wregConfig (bits.getLsbD 5) (decide (c = .temperature)) (bits.getLsbD 1)) s =
      perform (writeConfig (configByte c bits)) s := by
  rcases configBits_four bits clear with rfl | rfl | rfl | rfl <;> cases c <;> rfl

theorem step_mConfig {s : State} (at_ : s.phase = .mConfig) (clear : s.configBits &&& configHardwired = 0) :
    step s = exec (decodeSend regConfig (configByte s.cycle s.configBits)) s := by
  rw [decodeSend_configByte _ _ clear, exec_wregConfig _ _ clear, perform_alive _ _ (by simp [at_])]
  simp [step, phaseStep, at_, mConfig]

/-- A step about a word or frame that decodes performs the decoded instruction, phase by phase (R24, R130, R221). -/
theorem fetched_decodes {s : State} {f : Format} {bytes : List Byte} {i : Instr} (fetch : fetched s = some (f, bytes))
    (decoded : decode f bytes = .ok i) (clear : s.phase = .mConfig → s.configBits &&& configHardwired = 0) :
    i.wellFormed = true ∧ step s = exec i (if s.phase = .idle then { s with port := s.port.tail } else s) := by
  cases at_ : s.phase with
  | idle =>
    cases offered : s.port with
    | nil => simp [fetched, at_, offered] at fetch
    | cons w rest =>
      simp only [fetched, at_, offered, List.head?_cons, Option.map_some, Option.some.injEq, Prod.mk.injEq] at fetch
      obtain ⟨rfl, rfl⟩ := fetch
      exact ⟨decodeCommand_wellFormed decoded, by simpa [offered, at_] using step_idle at_ offered decoded⟩
  | mConfig =>
    simp only [fetched, at_, Option.some.injEq, Prod.mk.injEq] at fetch
    obtain ⟨rfl, rfl⟩ := fetch
    cases decoded
    exact ⟨by rw [decodeSend_configByte _ _ (clear at_)]; rfl, by simpa using step_mConfig at_ (clear at_)⟩
  | bReadId | mPoll | mLatch | mReadHi | mReadLo =>
    simp only [fetched, at_, Option.some.injEq, Prod.mk.injEq] at fetch
    obtain ⟨rfl, rfl⟩ := fetch
    cases decoded
    exact ⟨rfl, by
      simp [step, phaseStep, at_, decodeXfer, decodeSend, regId, regStatus, regData, regDataHi, regDataLo, dataAck]⟩
  | _ => simp [fetched, at_] at fetch

/-- Settles O10: `fetched` evaluated at each phase, and `fetched_decodes`. -/
theorem stepRunsFetchedInstruction : Obligations.StepRunsFetchedInstruction := by
  refine ⟨fun s w rest at_ offered => by simp [fetched, at_, offered], ?_, ?_, ?_, ?_, ?_, ?_,
    fun s f bytes i fetch decoded clear => fetched_decodes fetch decoded clear⟩ <;>
  · intro s at_
    simp [fetched, at_, regId, regConfig, regStatus, regData, regDataHi, regDataLo, dataAck]

end Sys2Proof.Machine
end

section
/-! PROOF. A simulation between two measurement cycles: the temporaries an earlier command left have no effect
(spec/10_state.md rule R29, spec/45_host_commands.md rule R226). -/

namespace Sys2Proof.Machine

/-- What two states share whose cycles run the same course, whatever the phase. -/
structure SameCourse (s s' : State) : Prop where
  trace : s'.trace = s.trace
  cycle : s'.cycle = s.cycle
  configBits : s'.configBits = s.configBits
  pollLimit : s'.pollLimit = s.pollLimit
  xferAnswers : s'.xferAnswers = s.xferAnswers
  sendAnswers : s'.sendAnswers = s.sendAnswers
  readCount : s'.readCount = s.readCount
  writeCount : s'.writeCount = s.writeCount

/-- The temporaries that a phase of a cycle has from the phases before it, the same in both states (R29). -/
def SameTemporaries (p : Phase) (s s' : State) : Prop :=
  match p with
  | .mPoll => s'.pollCnt = s.pollCnt
  | .mReadLo => s'.hi = s.hi
  | .mRelease => s'.hi = s.hi ∧ s'.lo = s.lo
  | .mCompute => s'.raw16 = s.raw16
  | .mAbort => s'.err = s.err
  | _ => True

/-- Two states in which a cycle goes on alike. -/
structure SameCycle (s s' : State) : Prop extends SameCourse s s' where
  phase : s'.phase = s.phase
  temporaries : SameTemporaries s.phase s s'

namespace SameCourse

variable {s s' : State}

theorem after_emit (h : SameCourse s s') (e : Event) : SameCourse (emit e s) (emit e s') :=
  { h with trace := by simp [h.trace] }

theorem after_pinWrite (h : SameCourse s s') (level : BitVec 1) : SameCourse (pinWrite level s) (pinWrite level s') :=
  { h.after_emit (.pin level) with }

theorem nextXferAnswer_eq (h : SameCourse s s') : nextXferAnswer s' = nextXferAnswer s :=
  xferAnswerAt_congr s s' 0 h.xferAnswers h.readCount

theorem nextSendAnswer_eq (h : SameCourse s s') : nextSendAnswer s' = nextSendAnswer s :=
  sendAnswerAt_congr s s' 0 h.sendAnswers h.writeCount

theorem after_busRead (h : SameCourse s s') (a : Byte) : SameCourse (busRead a s) (busRead a s') :=
  { h with
    trace := by simp [h.trace, h.nextXferAnswer_eq]
    xferAnswers := by simp [h.xferAnswers]
    readCount := by simp [h.readCount] }

theorem after_busWrite (h : SameCourse s s') (a v : Byte) : SameCourse (busWrite a v s) (busWrite a v s') :=
  { h with
    trace := by simp [h.trace, h.nextSendAnswer_eq]
    sendAnswers := by simp [h.sendAnswers]
    writeCount := by simp [h.writeCount] }

theorem after_raise (h : SameCourse s s') (e : ErrCode) (info : Byte) :
    SameCycle (raiseIn .cycle e info s) (raiseIn .cycle e info s') :=
  { h with phase := rfl, temporaries := rfl }

theorem after_read (h : SameCourse s s') (a : Byte) (ok : Byte → State → State)
    (answered : ∀ b, SameCycle (ok b (busRead a s)) (ok b (busRead a s'))) :
    SameCycle (readRegister .cycle a ok s) (readRegister .cycle a ok s') := by
  unfold readRegister
  rw [h.nextXferAnswer_eq]
  split
  · exact answered _
  · exact (h.after_busRead a).after_raise _ _
  · exact (h.after_busRead a).after_raise _ _

theorem after_write (h : SameCourse s s') (a v : Byte) (ok : State → State)
    (answered : SameCycle (ok (busWrite a v s)) (ok (busWrite a v s'))) :
    SameCycle (writeRegister .cycle a v ok s) (writeRegister .cycle a v ok s') := by
  unfold writeRegister
  rw [h.nextSendAnswer_eq]
  split
  · exact answered
  · exact (h.after_busWrite a v).after_raise _ _

theorem after_mSelect (h : SameCourse s s') : SameCycle (mSelect s) (mSelect s') :=
  { h.after_pinWrite 0 with phase := rfl, temporaries := trivial }

theorem after_mWait (h : SameCourse s s') : SameCycle (mWait s) (mWait s') :=
  { h.after_emit (.wait Config.wakeUpTime) with phase := rfl, temporaries := trivial }

theorem after_mConfig (h : SameCourse s s') : SameCycle (mConfig s) (mConfig s') := by
  unfold mConfig
  rw [h.cycle, h.configBits]
  exact h.after_write _ _ _ { h.after_busWrite _ _ with phase := rfl, temporaries := rfl }

theorem after_mPoll (h : SameCourse s s') (count : s'.pollCnt = s.pollCnt) : SameCycle (mPoll s) (mPoll s') := by
  refine h.after_read _ _ fun b => ?_
  have counted : SameCourse (polled b s) (polled b s') := { h.after_busRead regStatus with }
  have exhausted : pollExhausted (s'.pollCnt + 1) s'.pollLimit = pollExhausted (s.pollCnt + 1) s.pollLimit := by
    rw [count, h.pollLimit]
  cases busy : notReady b with
  | false =>
    simp only [pollAnswered, busy, Bool.false_eq_true, reduceIte]
    exact { counted with phase := rfl, temporaries := trivial }
  | true =>
    cases last : pollExhausted (s.pollCnt + 1) s.pollLimit <;>
      simp only [pollAnswered, busy, busRead_pollCnt, busRead_pollLimit, exhausted, last, Bool.false_eq_true, reduceIte]
    · exact { counted with phase := rfl, temporaries := congrArg (· + 1) count }
    · exact counted.after_raise _ _

theorem after_mLatch (h : SameCourse s s') : SameCycle (mLatch s) (mLatch s') :=
  h.after_write _ _ _ { h.after_busWrite _ _ with phase := rfl, temporaries := trivial }

theorem after_mReadHi (h : SameCourse s s') : SameCycle (mReadHi s) (mReadHi s') :=
  h.after_read _ _ fun _ => { h.after_busRead _ with phase := rfl, temporaries := rfl }

theorem after_mReadLo (h : SameCourse s s') (hi : s'.hi = s.hi) : SameCycle (mReadLo s) (mReadLo s') :=
  h.after_read _ _ fun _ => { h.after_busRead _ with phase := rfl, temporaries := ⟨hi, rfl⟩ }

theorem after_mRelease (h : SameCourse s s') (hi : s'.hi = s.hi) (lo : s'.lo = s.lo) :
    SameCycle (mRelease s) (mRelease s') :=
  { h.after_pinWrite 1 with phase := rfl, temporaries := congrArg₂ assembleSample hi lo }

theorem after_mAbort (h : SameCourse s s') (err : s'.err = s.err) : SameCycle (mAbort s) (mAbort s') := by
  unfold mAbort
  rw [err]
  exact { (h.after_pinWrite 1).after_emit _ with phase := rfl, temporaries := trivial }

end SameCourse

namespace SameCycle

/-- Both runs perform a step or both pass it over, because they are in the same phase. -/
theorem after_inPhase {s s' : State} (h : SameCycle s s') (p : Phase) (f : State → State)
    (performed : SameCourse s s' → SameTemporaries p s s' → SameCycle (f s) (f s')) :
    SameCycle (inPhase p f s) (inPhase p f s') := by
  unfold inPhase
  rw [h.phase]
  split
  · next at_ => exact performed h.toSameCourse (at_ ▸ h.temporaries)
  · exact h

/-- Two ready-poll loops that start alike stop after the same read: the induction over the reads (R126). -/
theorem after_pollLoop {n n' : Nat} (reads : n' = n) : ∀ {s s' : State}, SameCycle s s' → s.phase = .mPoll →
    SameCycle (pollLoop n s) (pollLoop n' s') := by
  subst reads
  induction n' with
  | zero => exact fun h _ => h
  | succ n ih =>
    intro s s' h at_
    have count : s'.pollCnt = s.pollCnt := by simpa [SameTemporaries, at_] using h.temporaries
    have read := h.after_mPoll count
    by_cases again : (mPoll s).phase = .mPoll
    · rw [pollLoop_again n s again, pollLoop_again n s' (read.phase.trans again)]
      exact ih read again
    · rw [pollLoop_stop n s again, pollLoop_stop n s' (read.phase ▸ again)]
      exact read

end SameCycle

theorem SameCourse.after_readyPoll {s s' : State} (h : SameCourse s s') : SameCycle (readyPoll s) (readyPoll s') :=
  SameCycle.after_pollLoop h.pollLimit { h with phase := rfl, temporaries := rfl } rfl

theorem SameCourse.after_measureCycle {s s' : State} (c : CycleKind)
    (h : SameCourse { s with cycle := c } { s' with cycle := c }) :
    SameCycle (measureCycle c s) (measureCycle c s') := by
  have configured := h.after_mSelect.after_mWait.after_mConfig
  have polled := configured.after_inPhase .mPoll readyPoll fun h _ => h.after_readyPoll
  have latched := polled.after_inPhase .mLatch mLatch fun h _ => h.after_mLatch
  have hiRead := latched.after_inPhase .mReadHi mReadHi fun h _ => h.after_mReadHi
  have loRead := hiRead.after_inPhase .mReadLo mReadLo fun h hi => h.after_mReadLo hi
  have released := loRead.after_inPhase .mRelease mRelease fun h bytes => h.after_mRelease bytes.1 bytes.2
  exact released.after_inPhase .mAbort mAbort fun h err => h.after_mAbort err

theorem exec_measureInstr (c : CycleKind) (s : State) : exec (measureInstr c) s = perform (measureCycle c) s := by
  cases c <;> rfl

/-- Settles O34, by the simulation between the two cycles: what they share at the start they share at every step. -/
theorem cycleIgnoresLeftovers : Obligations.CycleIgnoresLeftovers := by
  intro c s s' t alive _ leftovers ran
  have alive' : s'.phase ≠ .dead := by
    obtain ⟨_, _, _, _, _, _, _, _, _, _, rfl⟩ := leftovers
    exact alive
  have same : SameCycle (measureCycle c s) (measureCycle c s') := by
    obtain ⟨_, _, _, _, _, _, _, _, _, _, rfl⟩ := leftovers
    exact SameCourse.after_measureCycle c ⟨rfl, rfl, rfl, rfl, rfl, rfl, rfl, rfl⟩
  rw [exec_measureInstr] at ran ⊢
  have ended := (perform_next _ _ _ ran).2
  rw [← ended] at same
  refine ⟨measureCycle c s', perform_alive _ _ alive', same.trace, same.phase, fun computing => ?_⟩
  have temporaries := same.temporaries
  rwa [computing] at temporaries

end Sys2Proof.Machine
end

section
/-! PROOF. What a step adds to the trace: one bus transaction or none, and none right after a failed one
(spec/20_memory.md rule R72, spec/40_register_protocol.md rules R121 and R123, spec/60_exceptions.md rule R248). -/

namespace Sys2Proof.Machine

/-- The event is a bus transaction the environment did not complete (R120, R122). -/
def Event.isFailedBus : Event → Bool
  | .xfer _ .err | .xfer _ .noData | .send _ _ .err => true
  | _ => false

namespace Transition

variable {s t : State}

/-- A step makes no transaction, one read or one write, and takes as many of the environment's answers (R72, R75). -/
theorem trace_cases (h : Transition s t) :
    (∃ events, t.trace = s.trace ++ events ∧ events.length ≤ 2 ∧ events.countP Event.isBus = 0 ∧
      t.readCount = s.readCount ∧ t.writeCount = s.writeCount) ∨
    (∃ a, t.trace = s.trace ++ [.xfer a (nextXferAnswer s)] ∧ t.readCount = s.readCount + 1 ∧
      t.writeCount = s.writeCount) ∨
    (∃ a v, t.trace = s.trace ++ [.send a v (nextSendAnswer s)] ∧ t.readCount = s.readCount ∧
      t.writeCount = s.writeCount + 1) := by
  cases h with
  | idGood | idBad | idFails | pollReady | pollTimeout | pollAgain | pollFails | readHi | readHiFails | readLo
  | readLoFails => exact .inr (.inl ⟨_, rfl, rfl, rfl⟩)
  | config | configFails | latch | latchFails => exact .inr (.inr ⟨_, _, rfl, rfl, rfl⟩)
  | waiting | noTemperature => exact .inl ⟨[], (List.append_nil _).symm, Nat.zero_le 2, rfl, rfl, rfl⟩
  | heatOff | heatOn | fastOff | fastOn => exact .inl ⟨_, List.append_assoc .., Nat.le_refl 2, rfl, rfl, rfl⟩
  | _ => exact .inl ⟨_, rfl, by simp, rfl, rfl, rfl⟩

/-- A step whose new events hold a failed transaction leads to a step that releases the pin (R193, R249). -/
theorem failedBus_releases (h : Transition s t)
    (failure : (t.trace.drop s.trace.length).any Event.isFailedBus = true) :
    t.phase = .bRelease ∨ t.phase = .mAbort := by
  cases h with
  | idFails => exact .inl rfl
  | configFails | pollFails | latchFails | readHiFails | readLoFails => exact .inr rfl
  | _ => simp_all [Event.isFailedBus]

/-- The two steps that release the pin after a failure make no transaction (R194, R250). -/
theorem release_keeps_busCount (h : Transition s t) (releasing : s.phase = .bRelease ∨ s.phase = .mAbort) :
    t.trace.countP Event.isBus = s.trace.countP Event.isBus := by
  cases h with
  | bootReady | bootFailed | mAbort => simp [List.countP_append, Event.isBus]
  | _ => simp_all

end Transition

theorem step_makes_at_most_one_transaction {s t : State} (taken : step s = .next t) :
    ∃ events, t.trace = s.trace ++ events ∧ events.length ≤ 2 ∧ events.countP Event.isBus ≤ 1 ∧
      t.readCount + t.writeCount = s.readCount + s.writeCount + events.countP Event.isBus := by
  rcases (step_transition s t taken).trace_cases with
    ⟨events, grown, few, quiet, reads, writes⟩ | ⟨a, grown, reads, writes⟩ | ⟨a, v, grown, reads, writes⟩
  · exact ⟨events, grown, few, by omega, by omega⟩
  · exact ⟨_, grown, by simp, Nat.le_refl 1, by simp [Event.isBus]; omega⟩
  · exact ⟨_, grown, by simp, Nat.le_refl 1, by simp [Event.isBus]; omega⟩

/-- Settles O47: the events of a step by its transition; after a failed transaction the next step releases the pin. -/
theorem stepMakesAtMostOneTransaction : Obligations.StepMakesAtMostOneTransaction := by
  refine ⟨fun _ _ => step_makes_at_most_one_transaction, fun s t u first second ⟨e, grown, failure⟩ => ?_⟩
  have failed : (t.trace.drop s.trace.length).any Event.isFailedBus = true := by
    rcases failure with ⟨a, rfl | rfl⟩ | ⟨a, v, rfl⟩ <;> simp [grown, Event.isFailedBus]
  exact (step_transition t u second).release_keeps_busCount ((step_transition s t first).failedBus_releases failed)

end Sys2Proof.Machine
end

section
/-! PROOF. The decoder and the encoder agree (spec/30_encoding.md rules R90, R91, R101 to R106, R111). -/

namespace Sys2Proof.Machine

/-- The one-byte frames with a row of their own: the addresses the block reads, with their operations (R90, R111). -/
def readTable : List (Byte × Instr) :=
  [(0x00, .rregStatus), (0x01, .rregDataHi), (0x02, .rregDataLo), (0x11, .rregId)]

theorem decodeXfer_of_readable {a : Byte} (readable : readableAddress a = true) : (a, decodeXfer a) ∈ readTable := by
  have address : a = 0x00 ∨ a = 0x01 ∨ a = 0x02 ∨ a = 0x11 := by
    simpa [readableAddress, or_assoc] using readable
  rcases address with rfl | rfl | rfl | rfl <;> decide

theorem decodeXfer_of_not_readable {a : Byte} (other : readableAddress a = false) : decodeXfer a = .rreg a := by
  simp_all [readableAddress, decodeXfer]

/-- The mask and match of the row `WREG.CONFIG` select exactly the eight CONFIG bytes (R95, R111). -/
theorem configRow_iff (v : Byte) : v &&& 0xCD = 0x01 ↔ v ∈ configBytes := by
  have every : ∀ v : Byte, v &&& 0xCD = 0x01 ↔ v ∈ configBytes := by decide +kernel
  exact every v

theorem legalSend_iff (a v : Byte) (answer : SendAnswer) : Event.legalFrame (.send a v answer) = true ↔
    (a = 0x03 ∧ v ∈ configBytes) ∨ (a = 0x01 ∧ v = 0x00) := by
  simp [Event.legalFrame]

theorem decodeSend_of_not_legal {a v : Byte} {answer : SendAnswer}
    (other : Event.legalFrame (.send a v answer) = false) : decodeSend a v = .wreg a v := by
  obtain ⟨notConfig, notAck⟩ := not_or.mp ((legalSend_iff a v answer).not.mp (by simp [other]))
  rw [← configRow_iff] at notConfig
  rw [decodeSend, if_neg (by simpa using notConfig), if_neg (by simpa using notAck)]

/-- The CONFIG byte made of three option bits is read back as those bits (R93). -/
theorem decodeSend_configFrameByte (fast temp heat : Bool) :
    decodeSend 0x03 (configFrameByte fast temp heat) = .wregConfig fast temp heat := by
  cases fast <;> cases temp <;> cases heat <;> rfl

/-- Only the two generic rows share their frames with other rows (R111). -/
theorem named_of_not_generic {i : Instr} (notRead : ∀ a, i ≠ .rreg a) (notWrite : ∀ a v, i ≠ .wreg a v) :
    i.named = i := by
  cases i with
  | rreg a => exact absurd rfl (notRead a)
  | wreg a v => exact absurd rfl (notWrite a v)
  | _ => rfl

theorem decode_encode {i : Instr} (hasBytes : i.format ≠ .internal) : decode i.format (encode i) = .ok i.named := by
  cases i with
  | ident | poll | measureH | measureT | ctemp | chum => exact absurd rfl hasBytes
  | wregConfig fast temp heat => exact congrArg Except.ok (decodeSend_configFrameByte fast temp heat)
  | _ => rfl

/-- Settles O1: `decode_encode`, and which frames keep the generic name. -/
theorem decodeNamesEncodedInstruction : Obligations.DecodeNamesEncodedInstruction :=
  ⟨fun _ => decode_encode, fun _ => named_of_not_generic, fun _ => decodeXfer_of_not_readable,
    fun _ _ => decodeSend_of_not_legal⟩

theorem encode_commandTable : ∀ p ∈ commandTable, p.2.format = .cmd8 ∧ encode p.2 = [p.1] := by decide

theorem encode_readTable : ∀ p ∈ readTable, p.2.format = .xfer1 ∧ encode p.2 = [p.1] := by decide

theorem encode_configBytes : ∀ v ∈ configBytes,
    (decodeSend 0x03 v).format = .send2 ∧ encode (decodeSend 0x03 v) = [0x03, v] := by decide

theorem encode_decodeXfer (a : Byte) : (decodeXfer a).format = .xfer1 ∧ encode (decodeXfer a) = [a] := by
  cases readable : readableAddress a with
  | true => exact encode_readTable _ (decodeXfer_of_readable readable)
  | false => rw [decodeXfer_of_not_readable readable]; exact ⟨rfl, rfl⟩

theorem encode_decodeSend (a v : Byte) : (decodeSend a v).format = .send2 ∧ encode (decodeSend a v) = [a, v] := by
  cases legal : Event.legalFrame (.send a v .ack) with
  | true =>
    rcases (legalSend_iff a v .ack).mp legal with ⟨rfl, row⟩ | ⟨rfl, rfl⟩
    · exact encode_configBytes v row
    · exact ⟨rfl, rfl⟩
  | false => rw [decodeSend_of_not_legal legal]; exact ⟨rfl, rfl⟩

/-- Settles O2, format by format: a command word by its row of the table, a frame by its own row or the generic one. -/
theorem encodeReturnsDecodedBytes : Obligations.EncodeReturnsDecodedBytes := by
  intro f bytes i decoded
  unfold decode at decoded
  split at decoded
  · exact encode_commandTable _ (decodeCommand_ok _ _ decoded)
  · cases decoded; exact encode_decodeXfer _
  · cases decoded; exact encode_decodeSend _ _
  · cases decoded
  · cases decoded

/-- The seven command words (R102). -/
def commandWords : List Byte := commandTable.map Prod.fst

theorem decodeCommand_error_iff (w : Byte) : (∃ r, decodeCommand w = .error r) ↔ w ∉ commandWords := by
  constructor
  · rintro ⟨r, rejected⟩ listed
    obtain ⟨p, row, rfl⟩ := List.mem_map.mp listed
    have decoded := decodeCommand_table p row
    rw [rejected] at decoded
    cases decoded
  · intro other
    cases decoded : decodeCommand w with
    | error r => exact ⟨r, rfl⟩
    | ok i => exact absurd (List.mem_map_of_mem (decodeCommand_ok w i decoded)) other

/-- The command words by their fields `op`, zero bits and `arg` (R101, R104). -/
theorem not_mem_commandWords_iff (w : Byte) :
    w ∉ commandWords ↔ ((w >>> 4).toNat ∉ [1, 2, 3, 4] ∨ w &&& 0x0E ≠ 0 ∨ w = 0x21) := by
  have every : ∀ w : Byte,
      w ∉ commandWords ↔ ((w >>> 4).toNat ∉ [1, 2, 3, 4] ∨ w &&& 0x0E ≠ 0 ∨ w = 0x21) := by decide +kernel
  exact every w

theorem step_reserved {s : State} {w : Byte} {rest : List Byte} {r : Reject} (at_ : s.phase = .idle)
    (offered : s.port = w :: rest) (reserved : decodeCommand w = .error r) :
    step s = .refused (.reservedCommand w) := by
  simp [step, phaseStep, at_, idleStep, offered, reserved]

/-- Settles O5: the words outside the table, their fields and their number, and the step `IDLE` at one of them. -/
theorem reservedCommandWordsRefused : Obligations.ReservedCommandWordsRefused :=
  ⟨fun w => (decodeCommand_error_iff w).trans (not_mem_commandWords_iff w), by decide +kernel,
    fun _ _ _ _ => step_reserved⟩

/-- Settles O3: the seven words by evaluation, every other word by `decodeCommand_error_iff`. -/
theorem commandWordsDecode : Obligations.CommandWordsDecode :=
  ⟨rfl, rfl, rfl, rfl, rfl, rfl, rfl, fun w => (decodeCommand_error_iff w).mpr⟩

/-- Settles O4: frames with a row of their own by evaluation, other frames by the lemmas on the generic rows. -/
theorem busFramesDecode : Obligations.BusFramesDecode :=
  ⟨rfl, rfl, rfl, rfl, congrArg Except.ok (decodeSend_configFrameByte true true true),
    congrArg Except.ok (decodeSend_configFrameByte false true false), rfl,
    congrArg Except.ok (decodeXfer_of_not_readable rfl),
    congrArg Except.ok (decodeSend_of_not_legal (answer := .ack) rfl)⟩

end Sys2Proof.Machine
end

section
/-! PROOF. The operands the block computes: the CONFIG byte and the frames it goes out in, the raw sample and its fields,
the ID byte (spec/30_encoding.md rules R94 to R100, R105). -/

namespace Sys2Proof.Machine

/-- Settles O6: the eight rows by evaluation, and `configByte_mem`. -/
theorem configByteTable : Obligations.ConfigByteTable :=
  ⟨rfl, rfl, rfl, rfl, rfl, rfl, rfl, rfl, configByte_mem⟩

/-- Settles O53, from the frames each transition adds to the trace. -/
theorem stepKeepsFramesLegal : Obligations.StepKeepsFramesLegal :=
  fun s t clear frames taken => (step_transition s t taken).keeps_frames clear frames

theorem assembleSample_high (h l : Byte) : (assembleSample h l).extractLsb' 8 8 = h := by
  apply BitVec.eq_of_toNat_eq
  rw [BitVec.extractLsb'_toNat, assembleSample_toNat, Nat.shiftRight_eq_div_pow]
  omega

theorem assembleSample_low (h l : Byte) : (assembleSample h l).extractLsb' 0 8 = l := by
  apply BitVec.eq_of_toNat_eq
  rw [BitVec.extractLsb'_toNat, assembleSample_toNat, Nat.shiftRight_zero]
  omega

/-- Settles O7, from the sample's value `256 * hi + lo`. -/
theorem rawSampleAssembly : Obligations.RawSampleAssembly :=
  fun h l => ⟨rfl, assembleSample_high h l, assembleSample_low h l, assembleSample_toNat h l⟩

/-- The mask `ID_SAMPLE` keeps exactly bits 7:4 of the ID byte (R97). -/
theorem recognised_iff_highNibble (b : Byte) : recognised b = true ↔ b.extractLsb' 4 4 = 0b0101 := by
  have every : ∀ b : Byte, recognised b = true ↔ b.extractLsb' 4 4 = 0b0101 := by decide +kernel
  exact every b

theorem highNibble_iff_range (b : Byte) : b.extractLsb' 4 4 = 0b0101 ↔ 0x50 ≤ b.toNat ∧ b.toNat ≤ 0x5F := by
  rw [← BitVec.toNat_inj, BitVec.extractLsb'_toNat, Nat.shiftRight_eq_div_pow]
  change b.toNat / 2 ^ 4 % 2 ^ 4 = 5 ↔ _
  omega

/-- Settles O8: the mask by definition, the bits 7:4, and the range they stand for. -/
theorem idByteRecognised : Obligations.IdByteRecognised :=
  ⟨fun b => ⟨beq_eq_decide _ _, Bool.eq_iff_iff.mpr (by simpa using recognised_iff_highNibble b),
      Bool.eq_iff_iff.mpr (by simpa using (recognised_iff_highNibble b).trans (highNibble_iff_range b))⟩, rfl, rfl⟩

theorem temperatureField_le (raw : Sample) : temperatureField raw ≤ 16383 := by
  rw [temperatureField_eq]; omega

theorem humidityField_le (raw : Sample) : humidityField raw ≤ 4095 := by
  rw [humidityField_eq]; omega

/-- `CTEMP` reads its sample through the temperature field only (R100, R172). -/
theorem exec_ctemp_congr {raw raw' : Sample} (agree : temperatureField raw' = temperatureField raw) (unit : TempUnit)
    (s : State) : exec (.ctemp raw' unit) s = exec (.ctemp raw unit) s := by
  have same : celsius raw' = celsius raw := by rw [celsius, celsius, agree]
  cases unit <;> simp only [exec, execCtemp, temperatureValue, same]

/-- `CHUM` reads its sample through the humidity field only (R100, R176). -/
theorem exec_chum_congr {raw raw' : Sample} (agree : humidityField raw' = humidityField raw) (s : State) :
    exec (.chum raw') s = exec (.chum raw) s := by
  have same : humidityCurve raw' = humidityCurve raw := by rw [humidityCurve, humidityCurve, agree]
  simp only [exec, execChum, humidity, same]

/-- Settles O9: the values and bounds of the fields, and that the compensations depend on the fields alone. -/
theorem measurementFields : Obligations.MeasurementFields :=
  fun raw => ⟨temperatureField_eq raw, temperatureField_le raw, humidityField_eq raw, humidityField_le raw,
    fun _ agree => exec_ctemp_congr (congrArg BitVec.toNat agree),
    fun _ agree => exec_chum_congr (congrArg BitVec.toNat agree)⟩

end Sys2Proof.Machine
end

section
/-! PROOF. The register protocol: one transaction per operation, the step `M_POLL` and the loop over it
(spec/40_register_protocol.md rules R120 to R126). -/

namespace Sys2Proof.Machine

/-- Settles O51: the control invariant latches the request, and every transition then keeps the access windows. -/
theorem stepKeepsAccessWindows : Obligations.StepKeepsAccessWindows :=
  fun s t control windows taken => (step_transition s t taken).keeps_windows control.latched windows

/-! ## One transaction, by its answer -/

/-- A read answered with a byte hands the byte on (R120). -/
theorem readRegister_data {s : State} {b : Byte} (answer : nextXferAnswer s = .data b) (c : RaiseContext) (a : Byte)
    (ok : Byte → State → State) : readRegister c a ok s = ok b (busRead a s) := by
  rw [readRegister, answer]

/-- `Err` and `NoData` alike raise `BusError` (R120, R241). -/
theorem readRegister_fails {s : State} (failure : nextXferAnswer s = .err ∨ nextXferAnswer s = .noData)
    (c : RaiseContext) (a : Byte) (ok : Byte → State → State) :
    readRegister c a ok s = raiseIn c .busError noInfo (busRead a s) := by
  rcases failure with answer | answer <;> rw [readRegister, answer]

/-- An acknowledged write goes on (R122). -/
theorem writeRegister_ack {s : State} (answer : nextSendAnswer s = .ack) (c : RaiseContext) (a v : Byte)
    (ok : State → State) : writeRegister c a v ok s = ok (busWrite a v s) := by
  rw [writeRegister, answer]

/-- A write that is not acknowledged raises `BusError` (R122, R241). -/
theorem writeRegister_err {s : State} (answer : nextSendAnswer s = .err) (c : RaiseContext) (a v : Byte)
    (ok : State → State) : writeRegister c a v ok s = raiseIn c .busError noInfo (busWrite a v s) := by
  rw [writeRegister, answer]

/-- An error in a phase of a measurement command is a cycle's (R249). -/
theorem raiseContext_of_inCycle {p : Phase} (cycling : p.inCycle = true) : p.raiseContext = .cycle := by
  cases p with
  | bSelect | bWait | bReadId | bRelease | dead | idle => cases cycling
  | _ => rfl

/-- An error in a phase of the identity check is the check's (R193). -/
theorem raiseContext_of_boot {p : Phase} (booting : p ∈ [Phase.bSelect, .bWait, .bReadId, .bRelease]) :
    p.raiseContext = .boot := by
  revert p
  decide

theorem exec_rreg_data {s : State} (alive : s.phase ≠ .dead) {b : Byte} (answer : nextXferAnswer s = .data b)
    (a : Byte) : exec (.rreg a) s = .next (busRead a s) := by
  rw [exec, execRreg, perform_alive _ s alive, readRegister_data answer]

theorem exec_rreg_fails {s : State} (alive : s.phase ≠ .dead)
    (failure : nextXferAnswer s = .err ∨ nextXferAnswer s = .noData) (a : Byte) :
    exec (.rreg a) s = .next (raiseIn s.phase.raiseContext .busError noInfo (busRead a s)) := by
  rw [exec, execRreg, perform_alive _ s alive, readRegister_fails failure]

theorem exec_wreg_ack {s : State} (alive : s.phase ≠ .dead) (answer : nextSendAnswer s = .ack) (a v : Byte) :
    exec (.wreg a v) s = .next (busWrite a v s) := by
  rw [exec, execWreg, perform_alive _ s alive, writeRegister_ack answer]

theorem exec_wreg_err {s : State} (alive : s.phase ≠ .dead) (answer : nextSendAnswer s = .err) (a v : Byte) :
    exec (.wreg a v) s = .next (raiseIn s.phase.raiseContext .busError noInfo (busWrite a v s)) := by
  rw [exec, execWreg, perform_alive _ s alive, writeRegister_err answer]

/-- Settles O21: the answer says whether an error is raised, and the phase says where it goes. -/
theorem rregMakesOneRead : Obligations.RregMakesOneRead := by
  refine fun a s alive => ⟨fun ⟨b, answer⟩ => exec_rreg_data alive answer a, fun failure => ?_⟩
  rw [exec_rreg_fails alive failure]
  refine ⟨fun cycling => ?_, fun booting => ?_, fun idle => ?_⟩
  · rw [raiseContext_of_inCycle cycling, raiseIn_cycle]
    rfl
  · rw [raiseContext_of_boot booting, raiseIn_boot]
    rfl
  · simp [idle, Phase.raiseContext, raiseIn_dispatch, ErrCode.code, busRead, afterRead, emit]

/-- Settles O22: the answer says whether an error is raised, and the phase says where it goes. -/
theorem wregMakesOneWrite : Obligations.WregMakesOneWrite := by
  refine fun a v s alive => ⟨fun answer => exec_wreg_ack alive answer a v, fun answer => ?_⟩
  rw [exec_wreg_err alive answer]
  refine ⟨fun cycling => ?_, fun booting => ?_, fun idle => ?_⟩
  · rw [raiseContext_of_inCycle cycling, raiseIn_cycle]
    rfl
  · rw [raiseContext_of_boot booting, raiseIn_boot]
    rfl
  · simp [idle, answer, Phase.raiseContext, raiseIn_dispatch, ErrCode.code, busWrite, afterWrite, emit]

/-! ## The step `M_POLL`, by the answer to its read -/

section Answered

variable {s : State} {b : Byte} (answer : nextXferAnswer s = .data b)
include answer

theorem mPoll_ready (ready : notReady b = false) : mPoll s = goto .mLatch (polled b s) := by
  rw [mPoll, readRegister_data answer]
  simp [pollAnswered, ready, goto]

theorem mPoll_timeout (busy : notReady b = true) (last : s.pollCnt + 1 = s.pollLimit) :
    mPoll s = failed .timeoutError (polled b s) := by
  rw [mPoll, readRegister_data answer]
  simp [pollAnswered, busy, pollExhausted, last, raiseIn, noInfo]

theorem mPoll_again (busy : notReady b = true) (more : s.pollCnt + 1 ≠ s.pollLimit) :
    mPoll s = goto .mPoll (polled b s) := by
  rw [mPoll, readRegister_data answer]
  simp [pollAnswered, busy, pollExhausted, more, goto]

end Answered

theorem mPoll_fails {s : State} (failure : nextXferAnswer s = .err ∨ nextXferAnswer s = .noData) :
    mPoll s = failed .busError (busRead regStatus s) := by
  rw [mPoll, readRegister_fails failure]
  rfl

/-- Settles O23, outcome by outcome: `RREG.STATUS` is the step `M_POLL`. -/
theorem pollStepChoosesSuccessor : Obligations.PollStepChoosesSuccessor := by
  refine ⟨fun s at_ => by rw [step, phaseStep, at_], fun s alive => ?_⟩
  rw [exec, execRregStatus, perform_alive _ s alive]
  refine ⟨fun b answer => ⟨fun ready => ?_, fun busy last => ?_, fun busy more => ?_⟩, fun failure => ?_⟩
  · rw [mPoll_ready answer ready]
    rfl
  · rw [mPoll_timeout answer busy last]
    rfl
  · rw [mPoll_again answer busy more]
    rfl
  · rw [mPoll_fails failure]
    rfl

/-! ## The ready-poll loop -/

/-- The next STATUS reads will find the chip busy, with these bytes. -/
structure AnswersBusy (s : State) (busy : List Byte) : Prop where
  bits : ∀ b ∈ busy, notReady b = true
  answers : ∀ k b, busy[k]? = some b → xferAnswerAt s k = .data b

/-- The loop's state after STATUS reads that were answered with these bytes and found the chip busy. -/
def afterBusy (busy : List Byte) (s : State) : State :=
  { s with
    trace := s.trace ++ busy.map (fun b => .xfer 0x00 (.data b))
    statusByte := busy.getLastD s.statusByte
    pollCnt := s.pollCnt + busy.length
    phase := .mPoll
    xferAnswers := s.xferAnswers.drop busy.length
    readCount := s.readCount + busy.length }

/-- The state in which the loop makes its first read (R126). -/
abbrev pollStart (s : State) : State := goto .mPoll { s with pollCnt := 0 }

theorem nextXferAnswer_afterBusy (busy : List Byte) (s : State) :
    nextXferAnswer (afterBusy busy s) = xferAnswerAt s busy.length := by
  simp [nextXferAnswer, xferAnswerAt, afterBusy]

/-- One more answered read. -/
theorem polled_afterBusy {s : State} {busy : List Byte} {b : Byte} (answer : xferAnswerAt s busy.length = .data b) :
    polled b (afterBusy busy s) = afterBusy (busy ++ [b]) s := by
  have next := (nextXferAnswer_afterBusy busy s).trans answer
  simp only [polled, busRead, emit, next]
  simp [afterBusy, regStatus, Nat.add_assoc]

namespace AnswersBusy

variable {s : State} {b : Byte} {busy : List Byte}

theorem init (h : AnswersBusy s (busy ++ [b])) : AnswersBusy s busy where
  bits := fun c member => h.bits c (List.mem_append_left _ member)
  answers := fun k c found =>
    h.answers k c ((List.getElem?_append_left (List.getElem?_eq_some_iff.mp found).1).trans found)

theorem last (h : AnswersBusy s (busy ++ [b])) : xferAnswerAt s busy.length = .data b ∧ notReady b = true :=
  ⟨h.answers _ _ (by simp), h.bits b (by simp)⟩

/-- Below the limit, the reads that find the chip busy are made one after another: the induction over the loop. -/
theorem pollLoop_eq (answered : AnswersBusy s busy) (at_ : s.phase = .mPoll)
    (below : s.pollCnt + busy.length < s.pollLimit) (reads : Nat) :
    pollLoop (busy.length + reads) s = pollLoop reads (afterBusy busy s) := by
  induction busy using List.reverseRecOn generalizing reads with
  | nil => simp [afterBusy, ← at_]
  | append_singleton busy b ih =>
    obtain ⟨answer, bit⟩ := answered.last
    rw [List.length_append, List.length_singleton] at below ⊢
    have again : mPoll (afterBusy busy s) = afterBusy (busy ++ [b]) s := by
      rw [mPoll_again ((nextXferAnswer_afterBusy busy s).trans answer) bit (by simp [afterBusy]; omega),
        polled_afterBusy answer]
      rfl
    rw [Nat.add_assoc, Nat.add_comm 1 reads, ih answered.init (by omega),
      pollLoop_again _ _ (by rw [again]; rfl), again]

/-- The read that ends the loop, after the reads that found the chip busy (R126). -/
theorem readyPoll_eq (answered : AnswersBusy s busy) (below : busy.length < s.pollLimit)
    (leaves : (mPoll (afterBusy busy (pollStart s))).phase ≠ .mPoll) :
    readyPoll s = mPoll (afterBusy busy (pollStart s)) := by
  obtain ⟨reads, limit⟩ := Nat.exists_eq_add_of_lt below
  have started : AnswersBusy (pollStart s) busy := ⟨answered.bits, answered.answers⟩
  rw [← pollLoop_stop reads _ leaves, ← started.pollLoop_eq rfl (by simpa using below), ← Nat.add_assoc,
    ← limit]
  rfl

theorem readyPoll_ready (answered : AnswersBusy s busy) (below : busy.length < s.pollLimit)
    (ready : notReady b = false) (answer : xferAnswerAt s busy.length = .data b) :
    readyPoll s = goto .mLatch (afterBusy (busy ++ [b]) (pollStart s)) := by
  have ends := mPoll_ready ((nextXferAnswer_afterBusy busy (pollStart s)).trans answer) ready
  rw [polled_afterBusy (s := pollStart s) answer] at ends
  rw [answered.readyPoll_eq below (by rw [ends]; nofun), ends]

theorem readyPoll_fails (answered : AnswersBusy s busy) (below : busy.length < s.pollLimit)
    (failure : xferAnswerAt s busy.length = .err ∨ xferAnswerAt s busy.length = .noData) :
    readyPoll s = failed .busError (busRead regStatus (afterBusy busy (pollStart s))) := by
  have ends := mPoll_fails (s := afterBusy busy (pollStart s)) (by rwa [nextXferAnswer_afterBusy])
  rw [answered.readyPoll_eq below (by rw [ends]; nofun), ends]

theorem readyPoll_timeout (answered : AnswersBusy s busy) (all : busy.length = s.pollLimit)
    (positive : 1 ≤ s.pollLimit) : readyPoll s = failed .timeoutError (afterBusy busy (pollStart s)) := by
  rcases List.eq_nil_or_concat' busy with rfl | ⟨before, b, rfl⟩
  · simp [← all] at positive
  · rw [List.length_append, List.length_singleton] at all
    obtain ⟨answer, bit⟩ := answered.last
    have ends := mPoll_timeout ((nextXferAnswer_afterBusy before (pollStart s)).trans answer) bit
      (by simpa [afterBusy] using all)
    rw [polled_afterBusy (s := pollStart s) answer] at ends
    rw [answered.init.readyPoll_eq (by omega) (by rw [ends]; nofun), ends]

end AnswersBusy

/-- Settles O30, from the induction over the loop and the outcome of the read that ends it. -/
theorem pollLoopOutcomes : Obligations.PollLoopOutcomes := by
  intro s busy alive bits answers
  have answered : AnswersBusy s busy := ⟨bits, answers⟩
  rw [exec, execPoll, perform_alive _ s alive]
  refine ⟨fun ready below bit answer => ?_, fun failure below kind answer => ?_, fun all positive => ?_⟩
  · rw [answered.readyPoll_ready below bit answer]
    simp [afterBusy, goto]
  · rw [answered.readyPoll_fails below (by rwa [answer])]
    have next := (nextXferAnswer_afterBusy busy (pollStart s)).trans answer
    simp only [busRead, emit, next]
    simp [afterBusy, goto, regStatus, Nat.add_assoc]
  · rw [answered.readyPoll_timeout all positive]
    simp [afterBusy, goto]

end Sys2Proof.Machine
end

section
/-! PROOF. The steps of the measurement cycle one by one, by the answer to their transaction
(spec/41_measurement_cycle.md rules R141 to R148). -/

namespace Sys2Proof.Machine

/-! ## The step of each phase of a cycle -/

section Phases

variable {s : State}

theorem step_of_mSelect (at_ : s.phase = .mSelect) : step s = .next (mSelect s) := by
  rw [step, phaseStep, at_]

theorem step_of_mWait (at_ : s.phase = .mWait) : step s = .next (mWait s) := by
  rw [step, phaseStep, at_]

theorem step_of_mConfig (at_ : s.phase = .mConfig) : step s = .next (mConfig s) := by
  rw [step, phaseStep, at_]

theorem step_of_mPoll (at_ : s.phase = .mPoll) : step s = .next (mPoll s) := by
  rw [step, phaseStep, at_]
  exact perform_alive mPoll s (by simp [at_])

theorem step_of_mLatch (at_ : s.phase = .mLatch) : step s = .next (mLatch s) := by
  rw [step, phaseStep, at_]
  exact perform_alive mLatch s (by simp [at_])

theorem step_of_mReadHi (at_ : s.phase = .mReadHi) : step s = .next (mReadHi s) := by
  rw [step, phaseStep, at_]
  exact perform_alive mReadHi s (by simp [at_])

theorem step_of_mReadLo (at_ : s.phase = .mReadLo) : step s = .next (mReadLo s) := by
  rw [step, phaseStep, at_]
  exact perform_alive mReadLo s (by simp [at_])

theorem step_of_mRelease (at_ : s.phase = .mRelease) : step s = .next (mRelease s) := by
  rw [step, phaseStep, at_]

theorem step_of_mAbort (at_ : s.phase = .mAbort) : step s = .next (mAbort s) := by
  rw [step, phaseStep, at_]

end Phases

/-! ## Each transaction of a cycle, by its answer -/

section Answers

variable {s : State} {b : Byte}

theorem writeConfig_ack (answer : nextSendAnswer s = .ack) (v : Byte) :
    writeConfig v s = { afterWrite 0x03 v s with pollCnt := 0, phase := .mPoll } :=
  writeRegister_ack answer ..

theorem writeConfig_err (answer : nextSendAnswer s = .err) (v : Byte) :
    writeConfig v s = failed .busError (afterWrite 0x03 v s) :=
  writeRegister_err answer ..

theorem mLatch_ack (answer : nextSendAnswer s = .ack) :
    mLatch s = { afterWrite 0x01 0x00 s with phase := .mReadHi } :=
  writeRegister_ack answer ..

theorem mLatch_err (answer : nextSendAnswer s = .err) : mLatch s = failed .busError (afterWrite 0x01 0x00 s) :=
  writeRegister_err answer ..

theorem mReadHi_data (answer : nextXferAnswer s = .data b) :
    mReadHi s = { afterRead 0x01 s with hi := b, phase := .mReadLo } :=
  readRegister_data answer ..

theorem mReadHi_fails (failure : nextXferAnswer s = .err ∨ nextXferAnswer s = .noData) :
    mReadHi s = failed .busError (afterRead 0x01 s) :=
  readRegister_fails failure ..

theorem mReadLo_data (answer : nextXferAnswer s = .data b) :
    mReadLo s = { afterRead 0x02 s with lo := b, phase := .mRelease } :=
  readRegister_data answer ..

theorem mReadLo_fails (failure : nextXferAnswer s = .err ∨ nextXferAnswer s = .noData) :
    mReadLo s = failed .busError (afterRead 0x02 s) :=
  readRegister_fails failure ..

end Answers

/-- The one step that leads to `M_READ_LO` is a `M_READ_HI` that got its byte (R146, R147). -/
theorem Transition.to_mReadLo {s t : State} (h : Transition s t) (reached : t.phase = .mReadLo) :
    s.phase = .mReadHi ∧ ∃ b, nextXferAnswer s = .data b ∧ t.hi = b := by
  cases h with
  | readHi b at_ answer => exact ⟨at_, b, answer, rfl⟩
  | _ => simp_all

/-- Settles O24: the outcomes of the two reads, and the transitions that lead to `M_READ_LO`. -/
theorem dataReadSteps : Obligations.DataReadSteps := by
  refine ⟨fun s at_ => by rw [step, phaseStep, at_], fun s at_ => by rw [step, phaseStep, at_], fun s alive => ?_,
    fun s t taken => (step_transition s t taken).to_mReadLo⟩
  rw [exec, exec, execRregDataHi, execRregDataLo, perform_alive _ s alive, perform_alive _ s alive]
  exact ⟨fun b answer => ⟨congrArg _ (mReadHi_data answer), congrArg _ (mReadLo_data answer)⟩,
    fun failure => ⟨congrArg _ (mReadHi_fails failure), congrArg _ (mReadLo_fails failure)⟩⟩

/-- A frame's bits FAST, TEMP and HEAT give the CONFIG byte of its mode and options (R93, R94). -/
theorem configByte_eq_configFrameByte (fast temp heat : Bool) :
    configByte (if temp then .temperature else .humidity)
      ((if fast then configFast else 0x00) ||| (if heat then configHeat else 0x00)) =
      configFrameByte fast temp heat := by
  revert fast temp heat
  decide

theorem configByte_eq (c : CycleKind) (bits : Byte) :
    configByte c bits = 0x01 ||| (if c = .temperature then 0x10 else 0x00) ||| bits := by
  cases c <;> rfl

/-- Settles O25: the frame and the step send the same CONFIG byte, and the answer decides the rest. -/
theorem configStepWritesOptions : Obligations.ConfigStepWritesOptions := by
  refine ⟨fun fast temp heat s alive => ?_, fun s at_ => ?_⟩
  · rw [exec, execWregConfig, perform_alive _ s alive, configByte_eq_configFrameByte]
    exact ⟨fun answer => congrArg _ (writeConfig_ack answer _), fun answer => congrArg _ (writeConfig_err answer _)⟩
  · rw [step_of_mConfig at_, mConfig, configByte_eq]
    exact ⟨fun answer => congrArg _ (writeConfig_ack answer _), fun answer => congrArg _ (writeConfig_err answer _)⟩

/-- Settles O26: `WREG.DATA_ACK` is the step `M_LATCH`, by the answer to its write. -/
theorem latchStepWritesZero : Obligations.LatchStepWritesZero := by
  refine ⟨fun s at_ => by rw [step, phaseStep, at_], fun s alive => ?_⟩
  rw [exec, execWregDataAck, perform_alive _ s alive]
  exact ⟨fun answer => congrArg _ (mLatch_ack answer), fun answer => congrArg _ (mLatch_err answer)⟩

/-- Settles O27: the steps of the two phases, written out. -/
theorem selectAndWakeSteps : Obligations.SelectAndWakeSteps :=
  ⟨fun _ => step_of_mSelect, fun _ => step_of_mWait⟩

/-- Settles O28: the step of the phase, written out, and the sample by evaluation. -/
theorem releaseStepAssemblesSample : Obligations.ReleaseStepAssemblesSample :=
  ⟨fun _ => step_of_mRelease, by decide, by decide⟩

end Sys2Proof.Machine
end

section
/-! PROOF. The measurement cycle as a whole: the operation is a chain of the sequencer's steps, and the registers they
leave alone (spec/41_measurement_cycle.md rules R140 and R149 to R152, spec/10_state.md rule R24). -/

namespace Sys2Proof.Machine

/-! ## The cycle in three parts -/

/-- The chip selected and awake: the first two steps of a cycle of the given kind (R141, R142). -/
def awake (c : CycleKind) (s : State) : State := mWait (mSelect { s with cycle := c })

theorem awake_phase (c : CycleKind) (s : State) : (awake c s).phase = .mConfig := rfl

theorem awake_pollLimit (c : CycleKind) (s : State) : (awake c s).pollLimit = s.pollLimit := by
  simp [awake, mWait, mSelect]

theorem awake_trace (c : CycleKind) (s : State) : (awake c s).trace = s.trace ++ [Event.pin 0, Event.wait 15] := by
  simp [awake, mWait, mSelect]

/-- The transactions of a cycle: its steps from `M_CONFIG` to `M_READ_LO` (R143 to R147). -/
def transact (s : State) : State :=
  inPhase .mReadLo mReadLo (inPhase .mReadHi mReadHi (inPhase .mLatch mLatch (inPhase .mPoll readyPoll (mConfig s))))

/-- The end of a cycle: the sample is handed on, or the failure reported (R148, R250). -/
def leaveCycle (s : State) : State := inPhase .mAbort mAbort (inPhase .mRelease mRelease s)

theorem measureCycle_eq (c : CycleKind) (s : State) : measureCycle c s = leaveCycle (transact (awake c s)) := rfl

theorem leaveCycle_mRelease {s : State} (at_ : s.phase = .mRelease) : leaveCycle s = mRelease s := by
  rw [leaveCycle, inPhase_at _ _ s at_, inPhase_other]
  nofun

theorem leaveCycle_mAbort {s : State} (at_ : s.phase = .mAbort) : leaveCycle s = mAbort s := by
  rw [leaveCycle, inPhase_other _ _ s (by simp [at_]), inPhase_at _ _ s at_]

theorem step_leaveCycle {s : State} (ended : s.phase = .mRelease ∨ s.phase = .mAbort) :
    step s = .next (leaveCycle s) := by
  rcases ended with at_ | at_
  · rw [leaveCycle_mRelease at_, step_of_mRelease at_]
  · rw [leaveCycle_mAbort at_, step_of_mAbort at_]

/-! ## Where the transactions end -/

/-- Where a step of a cycle ends that can fail: at its successor, or on the way out (R249). -/
abbrev Leads (q : Phase) (s : State) : Prop := s.phase = q ∨ s.phase = .mAbort

theorem Leads.after_inPhase {p q : Phase} {f : State → State} {s : State} (before : Leads p s) (other : p ≠ .mAbort)
    (leads : Leads q (f s)) : Leads q (inPhase p f s) := by
  rcases before with at_ | aborting
  · rwa [inPhase_at p f s at_]
  · rw [inPhase_other p f s (by rw [aborting]; exact other.symm)]
    exact .inr aborting

theorem mConfig_leads (s : State) : Leads .mPoll (mConfig s) :=
  writeRegister_keeps (Leads .mPoll) _ _ _ _ _ (fun _ => .inl rfl) fun _ => .inr rfl

theorem mLatch_leads (s : State) : Leads .mReadHi (mLatch s) :=
  writeRegister_keeps (Leads .mReadHi) _ _ _ _ _ (fun _ => .inl rfl) fun _ => .inr rfl

theorem mReadHi_leads (s : State) : Leads .mReadLo (mReadHi s) :=
  readRegister_keeps (Leads .mReadLo) _ _ _ _ (fun _ _ => .inl rfl) fun _ => .inr rfl

theorem mReadLo_leads (s : State) : Leads .mRelease (mReadLo s) :=
  readRegister_keeps (Leads .mRelease) _ _ _ _ (fun _ _ => .inl rfl) fun _ => .inr rfl

/-- One STATUS read leaves the loop, or is counted below the limit and goes on (R125). -/
theorem mPoll_leads_or_again (s : State) : Leads .mLatch (mPoll s) ∨
    ((mPoll s).phase = .mPoll ∧ (mPoll s).pollCnt = s.pollCnt + 1 ∧ (mPoll s).pollLimit = s.pollLimit ∧
      s.pollCnt + 1 ≠ s.pollLimit) := by
  rcases mPoll_cases s with ⟨b, -, -, e⟩ | ⟨b, -, -, -, e⟩ | ⟨b, -, -, more, e⟩ | ⟨-, e⟩ <;> rw [e]
  · exact .inl (.inl rfl)
  · exact .inl (.inr rfl)
  · exact .inr ⟨rfl, rfl, rfl, more⟩
  · exact .inl (.inr rfl)

/-- With the reads the limit still allows, at least one, the loop leaves its phase: the induction over the reads. -/
theorem pollLoop_leads {n : Nat} {s : State} (reads : s.pollCnt + n = s.pollLimit) (positive : 0 < n) :
    Leads .mLatch (pollLoop n s) := by
  induction n generalizing s with
  | zero => exact absurd positive (Nat.lt_irrefl 0)
  | succ n ih =>
    rcases mPoll_leads_or_again s with leaves | ⟨again, count, limit, more⟩
    · rwa [pollLoop_stop n s (by rcases leaves with e | e <;> simp [e])]
    · rw [pollLoop_again n s again]
      exact ih (by omega) (by omega)

theorem readyPoll_leads {s : State} (positive : 1 ≤ s.pollLimit) : Leads .mLatch (readyPoll s) :=
  pollLoop_leads (Nat.zero_add _) positive

theorem mConfig_pollLimit (s : State) : (mConfig s).pollLimit = s.pollLimit :=
  writeRegister_keeps (fun t => t.pollLimit = s.pollLimit) _ _ _ _ _ (fun _ => rfl) fun _ => rfl

theorem transact_leads {s : State} (positive : 1 ≤ s.pollLimit) : Leads .mRelease (transact s) := by
  have polled := (mConfig_leads s).after_inPhase (by decide) (readyPoll_leads ((mConfig_pollLimit s).symm ▸ positive))
  have latched := polled.after_inPhase (by decide) (mLatch_leads _)
  have hiRead := latched.after_inPhase (by decide) (mReadHi_leads _)
  exact hiRead.after_inPhase (by decide) (mReadLo_leads _)

theorem transact_awake_leads (c : CycleKind) {s : State} (positive : 1 ≤ s.pollLimit) :
    Leads .mRelease (transact (awake c s)) :=
  transact_leads (by rwa [awake_pollLimit])

/-! ## The transactions are steps of the sequencer -/

/-- The phases in which a cycle makes its transactions. -/
abbrev Phase.transacts (p : Phase) : Prop := p ∈ [Phase.mConfig, .mPoll, .mLatch, .mReadHi, .mReadLo]

/-- So many steps of the sequencer, each one a transaction of a cycle. -/
inductive Transactions : Nat → State → State → Prop where
  | none (s : State) : Transactions 0 s s
  | next {n : Nat} {s t u : State} (at_ : s.phase.transacts) (taken : step s = .next t) (rest : Transactions n t u) :
    Transactions (n + 1) s u

namespace Transactions

variable {m n : Nat} {s t u : State}

theorem trans (first : Transactions m s t) (second : Transactions n t u) : Transactions (n + m) s u := by
  induction first with
  | none => exact second
  | next at_ taken _ ih => exact .next at_ taken (ih second)

/-- What every transaction keeps, all of them keep. -/
theorem keeps (steps : Transactions n s t) (P : State → Prop)
    (kept : ∀ s t, s.phase.transacts → Transition s t → P s → P t) (start : P s) : P t := by
  induction steps with
  | none => exact start
  | next at_ taken _ ih => exact ih (kept _ _ at_ (step_transition _ _ taken) start)

end Transactions

theorem run_succ {s t : State} (taken : step s = .next t) (n : Nat) : run (n + 1) s = run n t := by
  simp only [run, Host.Core.run, core, taken]

theorem Transactions.run_add {m : Nat} {s t : State} (steps : Transactions m s t) (n : Nat) :
    run (n + m) s = run n t := by
  induction steps with
  | none => rfl
  | next _ taken _ ih => rw [← Nat.add_assoc, run_succ taken, ih]

/-- Reached by at most so many transactions. -/
def Within (n : Nat) (s t : State) : Prop := ∃ k, k ≤ n ∧ Transactions k s t

namespace Within

variable {n : Nat} {s t : State}

theorem one (at_ : s.phase.transacts) (taken : step s = .next t) : Within 1 s t :=
  ⟨1, Nat.le_refl 1, .next at_ taken (.none t)⟩

theorem zero (s : State) : Within 0 s s := ⟨0, Nat.le_refl 0, .none s⟩

theorem trans {m : Nat} {u : State} (first : Within m s t) (second : Within n t u) : Within (n + m) s u := by
  obtain ⟨j, few, firsts⟩ := first
  obtain ⟨k, few', seconds⟩ := second
  exact ⟨k + j, by omega, firsts.trans seconds⟩

theorem mono {m : Nat} (h : Within m s t) (le : m ≤ n) : Within n s t := by
  obtain ⟨k, few, steps⟩ := h
  exact ⟨k, by omega, steps⟩

theorem of_inPhase {p : Phase} {f : State → State} (transacts : p.transacts)
    (taken : s.phase = p → step s = .next (f s)) : Within 1 s (inPhase p f s) := by
  by_cases at_ : s.phase = p
  · rw [inPhase_at p f s at_]
    exact one (at_ ▸ transacts) (taken at_)
  · rw [inPhase_other p f s at_]
    exact (zero s).mono (Nat.zero_le 1)

/-- The loop makes no more reads than it is allowed: the induction over the reads (R126). -/
theorem of_pollLoop : ∀ (n : Nat) {s : State}, s.phase = .mPoll → Within n s (pollLoop n s)
  | 0, s, _ => zero s
  | n + 1, s, at_ => by
    have read : Within 1 s (mPoll s) := one (by rw [at_]; decide) (step_of_mPoll at_)
    by_cases again : (mPoll s).phase = .mPoll
    · rw [pollLoop_again n s again]
      exact read.trans (of_pollLoop n again)
    · rw [pollLoop_stop n s again]
      exact read.mono (Nat.le_add_left 1 n)

/-- Right after `M_CONFIG` the count is zero, so the loop is the step `M_POLL` as the sequencer repeats it (R143). -/
theorem of_mConfig {s : State} (at_ : s.phase = .mConfig) :
    Within (s.pollLimit + 1) s (inPhase .mPoll readyPoll (mConfig s)) := by
  have wrote : Within 1 s (mConfig s) := one (by rw [at_]; decide) (step_of_mConfig at_)
  cases answer : nextSendAnswer s with
  | ack =>
    have polling := writeConfig_ack answer (configByte s.cycle s.configBits)
    have looped : inPhase .mPoll readyPoll (mConfig s) = pollLoop s.pollLimit (mConfig s) := by
      rw [mConfig, polling]
      exact inPhase_at .mPoll readyPoll _ rfl
    rw [looped]
    exact wrote.trans (of_pollLoop _ (by rw [mConfig, polling]))
  | err =>
    have aborting := writeConfig_err answer (configByte s.cycle s.configBits)
    rw [inPhase_other _ _ _ (by rw [mConfig, aborting]; nofun)]
    exact wrote.mono (Nat.le_add_left 1 _)

/-- The transactions of a cycle are at most `POLL_LIMIT` + 4 steps of the sequencer (R24, R126). -/
theorem of_transact {s : State} (at_ : s.phase = .mConfig) : Within (s.pollLimit + 4) s (transact s) := by
  have latched := (of_mConfig at_).trans (of_inPhase (by decide) step_of_mLatch)
  have hiRead := latched.trans (of_inPhase (by decide) step_of_mReadHi)
  have loRead := hiRead.trans (of_inPhase (by decide) step_of_mReadLo)
  exact loRead.mono (by omega)

end Within

/-- Settles O56: `M_SELECT` and `M_WAIT`, the transactions, and the step that leaves the cycle. -/
theorem sequencerRefinesMeasure : Obligations.SequencerRefinesMeasure := by
  intro s at_ positive
  obtain ⟨k, few, steps⟩ := Within.of_transact (awake_phase s.cycle s)
  rw [awake_pollLimit] at few
  refine ⟨1 + k + 2, by omega, ?_⟩
  rw [exec_measureInstr, perform_alive _ s (by simp [at_]), measureCycle_eq, run_succ (step_of_mSelect at_),
    run_succ (t := awake s.cycle s) (step_of_mWait rfl), steps.run_add,
    run_succ (step_leaveCycle (transact_awake_leads _ positive))]
  rfl

/-! ## What a cycle writes -/

/-- The registers that a cycle does not write are the same in both states (R152). -/
structure SameHandle (s t : State) : Prop where
  configBits : t.configBits = s.configBits
  lastTemperature : t.lastTemperature = s.lastTemperature
  ident : t.ident = s.ident
  bootErr : t.bootErr = s.bootErr
  pinMode : t.pinMode = s.pinMode
  result : t.result = s.result
  cmd : t.cmd = s.cmd
  unit : t.unit = s.unit
  idRaw : t.idRaw = s.idRaw
  pollLimit : t.pollLimit = s.pollLimit
  port : t.port = s.port

theorem sameHandle_measureCycle (c : CycleKind) (s : State) : SameHandle s (measureCycle c s) :=
  measureCycle_keeps (SameHandle s) c s ⟨rfl, rfl, rfl, rfl, rfl, rfl, rfl, rfl, rfl, rfl, rfl⟩
    (select := fun _ same => { same with })
    (wait := fun _ same => { same with })
    (config := fun _ same => by
      rw [mConfig, writeConfig]
      exact writeRegister_keeps (SameHandle s) _ _ _ _ _ (fun _ => { same with }) fun _ => { same with })
    (count := fun _ same => { same with })
    (poll := fun _ same => mPoll_keeps (SameHandle s) _ (fun _ => { same with }) (fun _ => { same with })
      (fun _ => { same with }) { same with })
    (latch := fun _ same =>
      writeRegister_keeps (SameHandle s) _ _ _ _ _ (fun _ => { same with }) fun _ => { same with })
    (hi := fun _ same => readRegister_keeps (SameHandle s) _ _ _ _ (fun _ _ => { same with }) fun _ => { same with })
    (lo := fun _ same => readRegister_keeps (SameHandle s) _ _ _ _ (fun _ _ => { same with }) fun _ => { same with })
    (release := fun _ same => { same with })
    (abort := fun _ same => { same with })

/-- Settles O33: no step of a cycle writes one of these registers. -/
theorem cycleLeavesDeviceHandle : Obligations.CycleLeavesDeviceHandle := by
  intro c s t ran
  rw [exec_measureInstr] at ran
  have same : SameHandle s t := (perform_next _ _ _ ran).2 ▸ sameHandle_measureCycle c s
  exact ⟨same.configBits, same.lastTemperature, same.ident, same.bootErr, same.pinMode, same.result, same.cmd,
    same.unit, same.idRaw, same.pollLimit, same.port⟩

end Sys2Proof.Machine
end

section
/-! PROOF. What a cycle adds to the trace: its transactions, counted step by step, and the trace of a successful cycle
(spec/41_measurement_cycle.md rules R149 to R151). -/

namespace Sys2Proof.Machine

/-! ## The transactions, counted -/

/-- How many transactions other than STATUS reads a cycle has made, at most, when a phase begins (R151). -/
def Phase.otherTransactions : Phase → Nat
  | .mPoll | .mLatch => 1
  | .mReadHi => 2
  | .mReadLo => 3
  | .mRelease | .mAbort => 4
  | .bSelect | .bWait | .bReadId | .bRelease | .dead | .idle | .mSelect | .mWait | .mConfig | .mCompute => 0

/-- What a cycle whose chip was awake in `s₀` has done by `s`: the events `bus`, as many as its phase allows. -/
structure BusSoFar (s₀ s : State) (bus : List Event) : Prop where
  grown : s.trace = s₀.trace ++ bus
  transactions : bus.all Event.isBus = true
  limit : s.pollLimit = s₀.pollLimit
  length : bus.length ≤ bus.countP Event.isStatusRead + s.phase.otherTransactions
  reads : bus.countP Event.isStatusRead ≤ s₀.pollLimit
  unread : s.phase = .mConfig → bus.countP Event.isStatusRead = 0
  counted : s.phase = .mPoll → bus.countP Event.isStatusRead = s.pollCnt ∧ s.pollCnt < s₀.pollLimit
  error : s.phase = .mAbort → s.err.code = .busError ∨
    (s.err.code = .timeoutError ∧ bus.countP Event.isStatusRead = s₀.pollLimit)

namespace BusSoFar

variable {s₀ s t : State} {bus : List Event} {e : Event}

theorem start (at_ : s.phase = .mConfig) : BusSoFar s s [] where
  grown := (List.append_nil _).symm
  transactions := rfl
  limit := rfl
  length := Nat.zero_le _
  reads := Nat.zero_le _
  unread := fun _ => rfl
  counted := by simp [at_]
  error := by simp [at_]

/-- One more transaction that is no STATUS read, between two phases that allow it. -/
theorem add_other {p q : Phase} (so : BusSoFar s₀ s bus) (at_ : s.phase = p) (to_ : t.phase = q)
    (isBus : e.isBus = true) (other : e.isStatusRead = false) (grown : t.trace = s.trace ++ [e])
    (limit : t.pollLimit = s.pollLimit) (allowed : p.otherTransactions + 1 ≤ q.otherTransactions)
    (polling : q = .mPoll → p = .mConfig ∧ t.pollCnt = 0 ∧ 0 < s₀.pollLimit)
    (error : q = .mAbort → t.err.code = .busError) : BusSoFar s₀ t (bus ++ [e]) := by
  subst at_ to_
  have same : (bus ++ [e]).countP Event.isStatusRead = bus.countP Event.isStatusRead := by
    simp [List.countP_append, other]
  exact {
    grown := by rw [grown, so.grown, List.append_assoc]
    transactions := by simp [so.transactions, isBus]
    limit := limit.trans so.limit
    length := by
      have length := so.length
      rw [same, List.length_append, List.length_singleton]
      omega
    reads := same ▸ so.reads
    unread := fun config => by simp [config, Phase.otherTransactions] at allowed
    counted := fun at_ => by
      obtain ⟨before, zero, positive⟩ := polling at_
      exact ⟨by rw [same, so.unread before, zero], zero ▸ positive⟩
    error := fun aborting => .inl (error aborting) }

/-- One more STATUS read (R125). -/
theorem add_read {q : Phase} (so : BusSoFar s₀ s bus) (at_ : s.phase = .mPoll) (to_ : t.phase = q)
    (answer : XferAnswer) (grown : t.trace = s.trace ++ [Event.xfer regStatus answer])
    (limit : t.pollLimit = s.pollLimit) (allowed : 1 ≤ q.otherTransactions)
    (polling : q = .mPoll → t.pollCnt = s.pollCnt + 1 ∧ s.pollCnt + 1 ≠ s.pollLimit)
    (error : q = .mAbort → t.err.code = .busError ∨ (t.err.code = .timeoutError ∧ s.pollCnt + 1 = s.pollLimit)) :
    BusSoFar s₀ t (bus ++ [Event.xfer regStatus answer]) := by
  subst to_
  obtain ⟨count, below⟩ := so.counted at_
  have more : (bus ++ [Event.xfer regStatus answer]).countP Event.isStatusRead = s.pollCnt + 1 := by
    simp [List.countP_append, Event.isStatusRead, count]
  exact {
    grown := by rw [grown, so.grown, List.append_assoc]
    transactions := by simp [so.transactions, Event.isBus]
    limit := limit.trans so.limit
    length := by
      have length : bus.length ≤ s.pollCnt + 1 := by simpa [at_, count, Phase.otherTransactions] using so.length
      rw [more, List.length_append, List.length_singleton]
      omega
    reads := by omega
    unread := fun config => by simp [config, Phase.otherTransactions] at allowed
    counted := fun again => by
      obtain ⟨next, notLast⟩ := polling again
      rw [so.limit] at notLast
      omega
    error := fun aborting => by
      rw [more, ← so.limit]
      exact error aborting }

end BusSoFar

/-- Every step that makes a transaction adds it to the account (R125, R143 to R147). -/
theorem Transition.keeps_busSoFar {s₀ s t : State} {bus : List Event} (h : Transition s t)
    (inside : s.phase.transacts) (positive : 1 ≤ s₀.pollLimit) (so : BusSoFar s₀ s bus) :
    ∃ e, BusSoFar s₀ t (bus ++ [e]) := by
  cases h with
  | config at_ =>
    exact ⟨_, so.add_other at_ rfl rfl rfl rfl rfl (by simp [Phase.otherTransactions])
      (fun _ => ⟨rfl, rfl, positive⟩) nofun⟩
  | latch at_ | readHi b at_ | readLo b at_ =>
    exact ⟨_, so.add_other at_ rfl rfl rfl rfl rfl (by simp [Phase.otherTransactions]) nofun nofun⟩
  | configFails at_ | latchFails at_ | readHiFails at_ | readLoFails at_ =>
    exact ⟨_, so.add_other at_ rfl rfl rfl rfl rfl (by simp [Phase.otherTransactions]) nofun fun _ => rfl⟩
  | pollReady b at_ =>
    exact ⟨_, so.add_read at_ rfl _ rfl rfl (by simp [Phase.otherTransactions]) nofun nofun⟩
  | pollTimeout b at_ _ _ last =>
    exact ⟨_, so.add_read at_ rfl _ rfl rfl (by simp [Phase.otherTransactions]) nofun fun _ => .inr ⟨rfl, last⟩⟩
  | pollAgain b at_ _ _ more =>
    exact ⟨_, so.add_read at_ rfl _ rfl rfl (by simp [Phase.otherTransactions]) (fun _ => ⟨rfl, more⟩) nofun⟩
  | pollFails at_ =>
    exact ⟨_, so.add_read at_ rfl _ rfl rfl (by simp [Phase.otherTransactions]) nofun fun _ => .inl rfl⟩
  | _ => simp_all

theorem transact_busSoFar {s : State} (at_ : s.phase = .mConfig) (positive : 1 ≤ s.pollLimit) :
    ∃ bus, BusSoFar s (transact s) bus := by
  obtain ⟨n, -, steps⟩ := Within.of_transact at_
  refine steps.keeps (fun t => ∃ bus, BusSoFar s t bus) (fun _ _ inside move ⟨bus, so⟩ => ?_) ⟨[], .start at_⟩
  obtain ⟨e, more⟩ := move.keeps_busSoFar inside positive so
  exact ⟨bus ++ [e], more⟩

/-- Settles O32: the transactions as counted, and then the step that releases the pin. -/
theorem cycleAlwaysReleasesPin : Obligations.CycleAlwaysReleasesPin := by
  intro c s alive positive
  have ended := transact_awake_leads c positive
  obtain ⟨bus, so⟩ := transact_busSoFar (awake_phase c s) (by rwa [awake_pollLimit])
  rw [exec_measureInstr, perform_alive _ s alive, measureCycle_eq]
  generalize transact (awake c s) = u at ended so
  have grown : u.trace = s.trace ++ [Event.pin 0, Event.wait 15] ++ bus := by rw [so.grown, awake_trace]
  have onBus : bus.countP Event.isBus = bus.length := List.countP_eq_length.mpr (List.all_eq_true.mp so.transactions)
  have reads : bus.countP Event.isStatusRead ≤ s.pollLimit := awake_pollLimit c s ▸ so.reads
  have length : bus.length ≤ bus.countP Event.isStatusRead + 4 := by
    rcases ended with at_ | at_ <;> simpa [at_, Phase.otherTransactions] using so.length
  rcases ended with at_ | at_
  · rw [leaveCycle_mRelease at_]
    refine ⟨mRelease u, bus ++ [Event.pin 1], rfl, rfl, by simp [mRelease, grown],
      .inl ⟨rfl, bus, rfl, so.transactions⟩, ?_, ?_⟩ <;>
    · simp [List.countP_append, Event.isBus, Event.isStatusRead]
      omega
  · rw [leaveCycle_mAbort at_]
    refine ⟨mAbort u, bus ++ [Event.pin 1, Event.rsp u.err.code.code 0 0x00], rfl, rfl,
      by simp [mAbort, grown, noValue, noInfo],
      .inr ⟨rfl, bus, u.err.code.code, ?_, rfl, so.transactions, ?_⟩, ?_, ?_⟩
    · rcases so.error at_ with e | ⟨e, -⟩ <;> simp [e, ErrCode.code]
    · rcases so.error at_ with e | ⟨-, all⟩
      · simp [e, ErrCode.code]
      · exact fun _ => awake_pollLimit c s ▸ all
    all_goals
      simp [List.countP_append, Event.isBus, Event.isStatusRead]
      omega

/-! ## A successful cycle -/

section Answered

variable {s : State} {b : Byte}

theorem mConfig_acked (answer : nextSendAnswer s = .ack) :
    mConfig s =
      { s with
        pollCnt := 0
        phase := .mPoll
        trace := s.trace ++ [.send 0x03 (configByte s.cycle s.configBits) .ack]
        sendAnswers := s.sendAnswers.tail
        writeCount := s.writeCount + 1 } := by
  rw [mConfig, writeConfig_ack answer, afterWrite, answer]

theorem inPhase_mPoll_ready {busy : List Byte} (at_ : s.phase = .mPoll) (answered : AnswersBusy s busy)
    (below : busy.length < s.pollLimit) (ready : notReady b = false) (answer : xferAnswerAt s busy.length = .data b) :
    inPhase .mPoll readyPoll s =
      { s with
        pollCnt := busy.length + 1
        statusByte := b
        phase := .mLatch
        trace := s.trace ++ busy.map (fun b => .xfer 0x00 (.data b)) ++ [.xfer 0x00 (.data b)]
        xferAnswers := s.xferAnswers.drop (busy.length + 1)
        readCount := s.readCount + (busy.length + 1) } := by
  rw [inPhase_at _ _ s at_, answered.readyPoll_ready below ready answer]
  simp [afterBusy, goto]

theorem inPhase_mLatch_acked (at_ : s.phase = .mLatch) (answer : nextSendAnswer s = .ack) :
    inPhase .mLatch mLatch s =
      { s with
        phase := .mReadHi
        trace := s.trace ++ [.send 0x01 0x00 .ack]
        sendAnswers := s.sendAnswers.tail
        writeCount := s.writeCount + 1 } := by
  rw [inPhase_at _ _ s at_, mLatch_ack answer, afterWrite, answer]

theorem inPhase_mReadHi_answered (at_ : s.phase = .mReadHi) (answer : nextXferAnswer s = .data b) :
    inPhase .mReadHi mReadHi s =
      { s with
        hi := b
        phase := .mReadLo
        trace := s.trace ++ [.xfer 0x01 (.data b)]
        xferAnswers := s.xferAnswers.tail
        readCount := s.readCount + 1 } := by
  rw [inPhase_at _ _ s at_, mReadHi_data answer, afterRead, answer]

theorem inPhase_mReadLo_answered (at_ : s.phase = .mReadLo) (answer : nextXferAnswer s = .data b) :
    inPhase .mReadLo mReadLo s =
      { s with
        lo := b
        phase := .mRelease
        trace := s.trace ++ [.xfer 0x02 (.data b)]
        xferAnswers := s.xferAnswers.tail
        readCount := s.readCount + 1 } := by
  rw [inPhase_at _ _ s at_, mReadLo_data answer, afterRead, answer]

end Answered

/-- The transactions of a successful cycle, one after another (R143 to R147, R150). -/
theorem transact_of_goodCycle {s : State} {busy : List Byte} {ready hi lo : Byte}
    (good : GoodCycle s busy ready hi lo) :
    transact s =
      { s with
        pollCnt := busy.length + 1
        statusByte := ready
        hi := hi
        lo := lo
        trace := s.trace ++ [.send 0x03 (configByte s.cycle s.configBits) .ack]
          ++ busy.map (fun b => .xfer 0x00 (.data b))
          ++ [.xfer 0x00 (.data ready), .send 0x01 0x00 .ack, .xfer 0x01 (.data hi), .xfer 0x02 (.data lo)]
        phase := .mRelease
        xferAnswers := s.xferAnswers.drop (busy.length + 3)
        sendAnswers := s.sendAnswers.drop 2
        readCount := s.readCount + (busy.length + 3)
        writeCount := s.writeCount + 2 } := by
  rw [transact, mConfig_acked good.configAnswer, inPhase_mPoll_ready (busy := busy) (b := ready), inPhase_mLatch_acked,
    inPhase_mReadHi_answered (b := hi), inPhase_mReadLo_answered (b := lo)]
  · have sends : s.sendAnswers.tail.tail = s.sendAnswers.drop 2 := by
      rw [← List.drop_one, ← List.drop_one, List.drop_drop]
    simp [Nat.add_assoc, sends]
  -- What is left is that control is at each phase and what the transaction there is answered, the last one first.
  · rfl
  · simpa [nextXferAnswer, xferAnswerAt, Nat.add_assoc] using good.loAnswer
  · rfl
  · simpa [nextXferAnswer, xferAnswerAt] using good.hiAnswer
  · rfl
  · simpa [nextSendAnswer, sendAnswerAt] using good.latchAnswer
  · rfl
  · exact ⟨good.busySet, good.busyAnswers⟩
  · exact good.within
  · exact good.readyClear
  · exact good.readyAnswer

theorem xferAnswerAt_awake (c : CycleKind) (s : State) (k : Nat) : xferAnswerAt (awake c s) k = xferAnswerAt s k :=
  xferAnswerAt_congr s (awake c s) k (by simp [awake, mWait, mSelect]) (by simp [awake, mWait, mSelect])

theorem sendAnswerAt_awake (c : CycleKind) (s : State) (k : Nat) : sendAnswerAt (awake c s) k = sendAnswerAt s k :=
  sendAnswerAt_congr s (awake c s) k (by simp [awake, mWait, mSelect]) (by simp [awake, mWait, mSelect])

theorem goodCycle_awake (c : CycleKind) {s : State} {busy : List Byte} {ready hi lo : Byte}
    (good : GoodCycle s busy ready hi lo) : GoodCycle (awake c s) busy ready hi lo where
  within := by rw [awake_pollLimit]; exact good.within
  busySet := good.busySet
  readyClear := good.readyClear
  busyAnswers := fun k b found => (xferAnswerAt_awake c s k).trans (good.busyAnswers k b found)
  readyAnswer := (xferAnswerAt_awake ..).trans good.readyAnswer
  hiAnswer := (xferAnswerAt_awake ..).trans good.hiAnswer
  loAnswer := (xferAnswerAt_awake ..).trans good.loAnswer
  configAnswer := (sendAnswerAt_awake ..).trans good.configAnswer
  latchAnswer := (sendAnswerAt_awake ..).trans good.latchAnswer

/-- Settles O31: the transactions of a good cycle, between the two pin writes. -/
theorem successfulCycle : Obligations.SuccessfulCycle := by
  intro c s busy ready hi lo alive good
  have transacted := transact_of_goodCycle (goodCycle_awake c good)
  have sample : assembleSample hi lo = BitVec.ofNat 16 (256 * hi.toNat + lo.toNat) := by
    rw [← assembleSample_toNat, BitVec.ofNat_toNat, BitVec.setWidth_eq]
  rw [exec_measureInstr, perform_alive _ s alive, measureCycle_eq, leaveCycle_mRelease, mRelease,
    transacted]
  · simp [awake, mWait, mSelect, goto, pinWrite, wakeWait, emit, sample, cycleTrace, Config.wakeUpTime]
  · rw [transacted]

end Sys2Proof.Machine
end

section
/-! PROOF. Where `NUM` loses nothing: negation, and the quotients and differences with at most 53 significant bits
(spec/42_compensation.md rules R171 and R173). -/

namespace Sys2Proof.Machine.F64

/-- Flipping the sign bit leaves the fields below it. -/
theorem fields_neg (x : Binary64) :
    expField (neg x) = expField x ∧ fraction (neg x) = fraction x ∧ sign (neg x) = !sign x := by
  refine ⟨?_, ?_, ?_⟩
  · rw [expField, neg, BitVec.toNat_xor, Nat.xor_div_two_pow, Nat.xor_mod_two_pow]
    exact Nat.xor_zero _
  · rw [fraction, neg, BitVec.toNat_xor, Nat.xor_mod_two_pow]
    exact Nat.xor_zero _
  · rw [sign, neg, BitVec.msb_xor]
    exact Bool.xor_true _

theorem isFinite_neg (x : Binary64) : isFinite (neg x) = isFinite x := by
  rw [isFinite, isFinite, (fields_neg x).1]

theorem units_neg (x : Binary64) : units (neg x) = -units x := by
  obtain ⟨sameExp, sameFraction, otherSign⟩ := fields_neg x
  have same : magnitude (neg x) = magnitude x := by simp only [magnitude, sameExp, sameFraction]
  rw [units, units, same, otherSign]
  cases sign x <;> simp

theorem units_of_positive {x : Binary64} (positive : sign x = false) : units x = magnitude x := by
  simp [units, positive]

/-- An integer of at most 53 significant bits is packed, sign and magnitude, without rounding. -/
theorem units_pack_exact {v n : Int} {j : Nat} (value : v = n * (2 ^ j : Nat)) (short : n.natAbs < 2 ^ 53)
    (range : j ≤ 2000) :
    isFinite (pack (decide (v < 0)) v.natAbs 1) = true ∧ units (pack (decide (v < 0)) v.natAbs 1) = v := by
  have shifted : v.natAbs = n.natAbs * 2 ^ j := by rw [value, Int.natAbs_mul, Int.natAbs_natCast]
  obtain ⟨divides, log⟩ := short_shifted n.natAbs j short range
  obtain ⟨finite, size, signed⟩ := pack_exact (decide (v < 0)) _ 1 Nat.one_pos divides log
  rw [Nat.mul_one, ← shifted] at finite size signed
  refine ⟨finite, ?_⟩
  rw [units, signed, size]
  by_cases negative : v < 0
  · simp only [negative, decide_true, if_true]; omega
  · simp only [negative, decide_false, Bool.false_eq_true, if_false]; omega

/-- A difference of at most 53 significant bits is computed without rounding. -/
theorem sub_exact {a b : Binary64} {n : Int} {j : Nat} (ha : isFinite a = true) (hb : isFinite b = true)
    (difference : units a - units b = n * (2 ^ j : Nat)) (short : n.natAbs < 2 ^ 53) (range : j ≤ 2000) :
    isFinite (sub a b) = true ∧ units (sub a b) = n * (2 ^ j : Nat) := by
  have hn : isFinite (neg b) = true := (isFinite_neg b).trans hb
  have total : units a + units (neg b) = n * (2 ^ j : Nat) := by rw [units_neg, ← Int.sub_eq_add_neg, difference]
  generalize value : n * ((2 ^ j : Nat) : Int) = v at total
  have computed : sub a b =
      if v = 0 then zero (sign a && sign (neg b)) else pack (decide (v < 0)) v.natAbs 1 := by
    simp only [sub, sum, isFinite_not a ha, isFinite_not b hb, isFinite_not _ hn, total, Bool.or_self,
      Bool.false_eq_true, if_false]
  rw [computed]
  split
  · next null =>
    rw [null]
    cases sign a && sign (neg b) <;> decide
  · exact units_pack_exact value.symm short range

/-- A quotient of positive numbers that has at most 53 significant bits is computed without rounding. -/
theorem div_exact {a b : Binary64} {n j : Nat} (ha : isFinite a = true) (hb : isFinite b = true)
    (pa : sign a = false) (pb : sign b = false) (nonzero : magnitude b ≠ 0)
    (quotient : magnitude a * one = n * 2 ^ j * magnitude b) (short : n < 2 ^ 53) (range : j ≤ 2000) :
    isFinite (div a b) = true ∧ units (div a b) = n * (2 ^ j : Nat) := by
  obtain ⟨divides, log⟩ := short_shifted n j short range
  obtain ⟨finite, size, positive⟩ :=
    pack_exact (sign a != sign b) _ (magnitude b) (Nat.pos_of_ne_zero nonzero) divides log
  rw [div_finite a b ha hb nonzero, quotient]
  refine ⟨finite, ?_⟩
  rw [units_of_positive (by simpa [pa, pb] using positive), size]
  exact Int.natCast_mul _ _

end Sys2Proof.Machine.F64
end

section
/-! PROOF. Calibration and compensation: the Celsius value is exact, the constants, and what `CTEMP` and `CHUM` write
(spec/42_compensation.md rules R170 to R177, spec/10_state.md rule R27). -/

namespace Sys2Proof.Machine

/-! ## The Celsius value -/

/-- How many units of 2^-1074 make 1/32, the step of the temperature field (R173). -/
def thirtySecond : Nat := 2 ^ 1069

theorem one_eq : F64.one = 32 * thirtySecond := by
  have slope : (32 : Nat) = 2 ^ 5 := rfl
  rw [slope, thirtySecond, ← pow_add, F64.one]

theorem thirtySecond_pos : 0 < thirtySecond := by
  rw [thirtySecond]
  positivity

/-- The first operation of the formula, a field over `TEMPERATURE_SLOPE` (R173). -/
theorem div_slope_exact {field : Nat} (short : field < 2 ^ 53) :
    F64.isFinite (F64.div (F64.toNum field) temperatureSlope) = true ∧
      F64.units (F64.div (F64.toNum field) temperatureSlope) = field * thirtySecond := by
  obtain ⟨finite, size, positive⟩ := F64.toNum_exact field short
  obtain ⟨finite', size', positive'⟩ := F64.toNum_exact 32 (by decide)
  have positiveOne : 0 < F64.one := one_eq ▸ Nat.mul_pos (by decide) thirtySecond_pos
  refine F64.div_exact finite finite' positive positive' ?_ ?_ short (by decide)
  · rw [temperatureSlope, size']
    exact (Nat.mul_pos (by decide) positiveOne).ne'
  · rw [temperatureSlope, size, size', ← thirtySecond, one_eq]
    ring

/-- The Celsius value counts the steps of 1/32 from -50 (R173). -/
theorem units_celsius (raw : Sample) :
    F64.isFinite (celsius raw) = true ∧
      F64.units (celsius raw) = ((temperatureField raw : Int) - 1600) * thirtySecond := by
  have bound := temperatureField_le raw
  obtain ⟨finite, value⟩ := div_slope_exact (field := temperatureField raw) (by omega)
  obtain ⟨finite', size, positive⟩ := F64.toNum_exact 50 (by decide)
  refine F64.sub_exact finite finite' ?_ (by omega) (by decide)
  rw [value, temperatureOffset, F64.units_of_positive positive, size, one_eq, ← thirtySecond]
  push_cast
  ring

/-- Settles O37: one is 32 steps, so the value is the count of steps over 32. -/
theorem celsiusIsExact : Obligations.CelsiusIsExact := by
  intro raw
  obtain ⟨finite, value⟩ := units_celsius raw
  refine ⟨finite, ?_⟩
  have nonzero : (thirtySecond : Rat) ≠ 0 := Nat.cast_ne_zero.mpr thirtySecond_pos.ne'
  rw [F64.toRat, value, one_eq, temperatureField_eq]
  generalize raw.toNat / 4 = field
  push_cast
  field_simp
  ring

/-! ## The constants and vectors -/

theorem a0_eq : a0 = 0xC0132339C0EBEDFA := by decide +kernel

theorem a1_eq : a1 = 0x3FD9A6B50B0F27BB := by decide +kernel

theorem a2_eq : a2 = 0xBF7018E757928E0D := by decide +kernel

theorem q0_eq : q0 = 0x3FC941205BC01A37 := by decide +kernel

theorem q1_eq : q1 = 0x3F636A400FBA8827 := by decide +kernel

/-- Vectors V40, V41 and V53, and V42 and V61 in Fahrenheit. -/
theorem temperature_vectors :
    celsius 0x0000 = 0xC049000000000000 ∧ celsius 0x0003 = 0xC049000000000000 ∧
      celsius 0xFFFF = 0x407CDF8000000000 ∧ fahrenheit (celsius 0x0004) = 0xC04CF8CCCCCCCCCC ∧
      fahrenheit (celsius 0xFFFF) = 0x408AFC599999999A := by decide +kernel

/-- Vectors V64, V65 and V69. -/
theorem humidity_vectors :
    humidity 0x0000 (celsius 0x0000) = 0xC035B9F7BA839670 ∧ humidity 0xFFFF (celsius 0xFFFF) = 0x40892028DAFC272A ∧
      humidity 0x6000 (celsius 0x2648) = 0x4050C42D63A51E91 ∧
      humidity 0x180F (celsius 0x2580) = 0x400DEDFCD04AB0A8 := by decide +kernel

/-- Settles O38, by evaluating the constants and the vectors. -/
theorem compensationVectors : Obligations.CompensationVectors := by
  obtain ⟨v40, v41, v53, v42, v61⟩ := temperature_vectors
  exact ⟨a0_eq, a1_eq, a2_eq, q0_eq, q1_eq, v40, v41, v53, v42, v61, humidity_vectors⟩

/-! ## The two instructions -/

theorem exec_ctemp {s : State} (alive : s.phase ≠ .dead) (raw : Sample) (unit : TempUnit) :
    exec (.ctemp raw unit) s =
      .next { s with lastTemperature := some (celsius raw), result := temperatureValue raw unit } := by
  rw [exec, execCtemp, perform_alive _ s alive]

theorem exec_chum_stored {s : State} (alive : s.phase ≠ .dead) {t : Binary64} (stored : s.lastTemperature = some t)
    (raw : Sample) : exec (.chum raw) s = .next { s with result := humidity raw t } := by
  rw [exec, execChum, perform_alive _ s alive, stored]

theorem exec_chum_none {s : State} (alive : s.phase ≠ .dead) (stored : s.lastTemperature = none) (raw : Sample) :
    exec (.chum raw) s = .next (raiseIn s.phase.raiseContext .staleCompensationError noInfo s) := by
  rw [exec, execChum, perform_alive _ s alive, stored]
  rfl

theorem celsius_eq (raw : Sample) :
    celsius raw = F64.sub (F64.div (F64.toNum (raw.toNat / 4)) (F64.toNum 32)) (F64.toNum 50) := by
  rw [celsius, temperatureField_eq, temperatureSlope, temperatureOffset]

theorem humidityCurve_eq (raw : Sample) :
    humidityCurve raw = F64.sub (F64.div (F64.toNum (raw.toNat / 16)) (F64.toNum 16)) (F64.toNum 24) := by
  rw [humidityCurve, humidityField_eq, humiditySlope, humidityOffset]

/-- Settles O35: the formula over the field as a number, unit by unit, and the two values by evaluation. -/
theorem ctempStoresCelsius : Obligations.CtempStoresCelsius := by
  refine ⟨fun raw unit s alive => ?_, by decide +kernel, by decide +kernel⟩
  rw [exec_ctemp alive, ← celsius_eq]
  cases unit <;> rfl

/-- Settles O36: with a temperature the formula over the constants' patterns, with none the phase says where the error
goes. -/
theorem chumComputesHumidity : Obligations.ChumComputesHumidity := by
  refine ⟨fun raw s alive => ⟨fun t stored curve linear hcurve hlinear => ?_, fun stored => ?_⟩, by decide +kernel⟩
  · rw [exec_chum_stored alive stored, humidity, compensate, humidityLinear, humidityCurve_eq, ← hcurve,
      a0_eq, a1_eq, a2_eq, ← hlinear, q0_eq, q1_eq, referenceTemperature]
  · rw [exec_chum_none alive stored]
    refine ⟨fun cycling => ?_, fun booting => ?_, fun idle => ?_⟩
    · rw [raiseContext_of_inCycle cycling, raiseIn_cycle]
      rfl
    · rw [raiseContext_of_boot booting, raiseIn_boot]
      rfl
    · simp [idle, Phase.raiseContext, raiseIn_dispatch, ErrCode.code]

/-! ## Who stores a temperature -/

/-- An effect that leaves `last_temperature` as it is. -/
def KeepsTemperature (effect : State → State) : Prop := ∀ s, (effect s).lastTemperature = s.lastTemperature

theorem raiseIn_lastTemperature (c : RaiseContext) (e : ErrCode) (info : Byte) (s : State) :
    (raiseIn c e info s).lastTemperature = s.lastTemperature := by
  cases c <;> rfl

theorem keepsTemperature_accept (w : Byte) {dispatch : State → State} (dispatched : KeepsTemperature dispatch) :
    KeepsTemperature (accept w dispatch) := by
  intro s
  by_cases idle : s.phase = .idle
  · rw [accept_idle w dispatch s idle, dispatched]
    rfl
  · rw [accept_hold w dispatch s idle]

theorem keepsTemperature_readRegister (c : State → RaiseContext) (a : Byte) {ok : Byte → State → State}
    (answered : ∀ b, KeepsTemperature (ok b)) : KeepsTemperature fun s => readRegister (c s) a ok s :=
  fun s => readRegister_keeps (fun t => t.lastTemperature = s.lastTemperature) _ _ _ _ (fun b _ => answered b _)
    fun _ => raiseIn_lastTemperature _ _ _ _

theorem keepsTemperature_writeRegister (c : State → RaiseContext) (a v : Byte) {ok : State → State}
    (answered : KeepsTemperature ok) : KeepsTemperature fun s => writeRegister (c s) a v ok s :=
  fun s => writeRegister_keeps (fun t => t.lastTemperature = s.lastTemperature) _ _ _ _ _ (fun _ => answered _)
    fun _ => raiseIn_lastTemperature _ _ _ _

theorem keepsTemperature_idAnswered (b : Byte) : KeepsTemperature (idAnswered b) := by
  intro s
  rw [idAnswered]
  split <;> rfl

theorem keepsTemperature_bReadId : KeepsTemperature bReadId :=
  keepsTemperature_readRegister (fun _ => .boot) _ keepsTemperature_idAnswered

theorem keepsTemperature_bRelease : KeepsTemperature bRelease := by
  intro s
  rw [bRelease]
  split <;> rfl

theorem keepsTemperature_identityCheck : KeepsTemperature fun s => bRelease (bReadId (bWait (bSelect s))) :=
  fun s => (keepsTemperature_bRelease _).trans (keepsTemperature_bReadId (bWait (bSelect s)))

theorem keepsTemperature_mPoll : KeepsTemperature mPoll :=
  fun s => mPoll_keeps (fun t => t.lastTemperature = s.lastTemperature) s (fun _ => rfl) (fun _ => rfl) (fun _ => rfl)
    rfl

theorem keepsTemperature_readyPoll : KeepsTemperature readyPoll :=
  fun s => pollLoop_keeps (fun t => t.lastTemperature = s.lastTemperature)
    (fun t same => (keepsTemperature_mPoll t).trans same) _ _ rfl

/-- Every instruction but `CTEMP` is an effect that keeps `last_temperature` (R175). -/
theorem exec_keepsTemperature (i : Instr) : (∃ raw unit, i = .ctemp raw unit) ∨
    ∃ effect, (∀ s, exec i s = perform effect s) ∧ KeepsTemperature effect := by
  cases i with
  | ctemp raw unit => exact .inl ⟨raw, unit, rfl⟩
  | rdtC | rdtF | heatOff | heatOn | fastOff | fastOn =>
    exact .inr ⟨_, fun _ => rfl, keepsTemperature_accept _ fun _ => rfl⟩
  | rdh =>
    refine .inr ⟨_, fun _ => rfl, keepsTemperature_accept _ fun s => ?_⟩
    split <;> rfl
  | rreg a => exact .inr ⟨_, fun _ => rfl, keepsTemperature_readRegister _ a fun _ _ => rfl⟩
  | rregDataHi | rregDataLo =>
    exact .inr ⟨_, fun _ => rfl, keepsTemperature_readRegister (fun _ => .cycle) _ fun _ _ => rfl⟩
  | rregStatus => exact .inr ⟨_, fun _ => rfl, keepsTemperature_mPoll⟩
  | rregId => exact .inr ⟨_, fun _ => rfl, keepsTemperature_bReadId⟩
  | wreg a v => exact .inr ⟨_, fun _ => rfl, keepsTemperature_writeRegister _ a v fun _ => rfl⟩
  | wregConfig | wregDataAck =>
    exact .inr ⟨_, fun _ => rfl, keepsTemperature_writeRegister (fun _ => .cycle) _ _ fun _ => rfl⟩
  | ident => exact .inr ⟨fun s => bRelease (bReadId (bWait (bSelect s))), fun _ => rfl, keepsTemperature_identityCheck⟩
  | poll => exact .inr ⟨readyPoll, fun _ => rfl, keepsTemperature_readyPoll⟩
  | measureH | measureT => exact .inr ⟨_, fun _ => rfl, fun s => (sameHandle_measureCycle _ s).lastTemperature⟩
  | chum raw =>
    refine .inr ⟨_, fun _ => rfl, fun s => ?_⟩
    split
    · exact raiseIn_lastTemperature _ _ _ s
    · rfl

/-- Settles O46, by instruction and by transition. -/
theorem onlyCtempStoresTemperature : Obligations.OnlyCtempStoresTemperature := by
  refine ⟨fun raw unit s t ran => ?_, fun i s t ran changed => ?_, fun s t taken changed => ?_,
    fun s t taken stored => ?_⟩
  · rw [exec, execCtemp] at ran
    obtain ⟨-, rfl⟩ := perform_next _ _ _ ran
    rfl
  · rcases exec_keepsTemperature i with ctemp | ⟨effect, performs, keeps⟩
    · exact ctemp
    · rw [performs] at ran
      exact absurd ((perform_next _ _ _ ran).2 ▸ keeps s) changed
  · exact (step_transition s t taken).lastTemperature_cases.resolve_left changed
  · rcases (step_transition s t taken).lastTemperature_cases with same | ⟨-, -, computed⟩
    · rwa [same]
    · simp [computed]

end Sys2Proof.Machine
end

section
/-! PROOF. The device identity check: its four steps, the boot traces they make, and that it runs once
(spec/43_identity_check.md rules R190 to R199). -/

namespace Sys2Proof.Machine

/-! ## The step of each phase of the check -/

section Phases

variable {s : State}

theorem step_of_bSelect (at_ : s.phase = .bSelect) : step s = .next (bSelect s) := by
  rw [step, phaseStep, at_]

theorem step_of_bWait (at_ : s.phase = .bWait) : step s = .next (bWait s) := by
  rw [step, phaseStep, at_]

theorem step_of_bReadId (at_ : s.phase = .bReadId) : step s = .next (bReadId s) := by
  rw [step, phaseStep, at_]
  exact perform_alive bReadId s (by simp [at_])

theorem step_of_bRelease (at_ : s.phase = .bRelease) : step s = .next (bRelease s) := by
  rw [step, phaseStep, at_]

/-- In `DEAD` there is no step (R195). -/
theorem step_of_dead (at_ : s.phase = .dead) : step s = .fault .stuckDead := by
  rw [step, phaseStep, at_]

/-- In `DEAD` no instruction has an effect (R195). -/
theorem exec_of_dead (at_ : s.phase = .dead) (i : Instr) : exec i s = .fault .stuckDead := by
  obtain ⟨effect, performs⟩ := exec_performs i
  rw [performs, perform_dead effect s at_]

end Phases

/-- Settles O12: no phase step, and every instruction is an effect performed outside `DEAD` only. -/
theorem deadBlockIsStuck : Obligations.DeadBlockIsStuck :=
  fun _ at_ => ⟨step_of_dead at_, exec_of_dead at_⟩

/-! ## What each step of the check does -/

section Effects

variable {s : State} {b : Byte}

theorem bSelect_eq (s : State) : bSelect s =
    { s with trace := s.trace ++ [.mode .output, .pin 0], pinMode := .output, cs := 0, phase := .bWait } := by
  simp [bSelect, goto, pinWrite, pinModeOutput, emit]

theorem bWait_eq (s : State) : bWait s = { s with trace := s.trace ++ [.wait 15], phase := .bReadId } := rfl

theorem recognised_iff_masked (b : Byte) : recognised b = true ↔ b &&& 0xF0 = 0x50 := beq_iff_eq

theorem bReadId_recognised (answer : nextXferAnswer s = .data b) (good : b &&& 0xF0 = 0x50) :
    bReadId s = { afterRead 0x11 s with idRaw := b, ident := .ready, phase := .bRelease } := by
  rw [bReadId, readRegister_data answer, idAnswered, if_pos ((recognised_iff_masked b).mpr good)]
  rfl

theorem bReadId_unrecognised (answer : nextXferAnswer s = .data b) (bad : b &&& 0xF0 ≠ 0x50) :
    bReadId s = { afterRead 0x11 s with
      idRaw := b, ident := .failed, bootErr := some ⟨.unrecognizedDeviceError, b⟩, phase := .bRelease } := by
  rw [bReadId, readRegister_data answer, idAnswered, if_neg fun good => bad ((recognised_iff_masked b).mp good)]
  rfl

theorem bReadId_fails (failure : nextXferAnswer s = .err ∨ nextXferAnswer s = .noData) :
    bReadId s = { afterRead 0x11 s with
      ident := .failed, bootErr := some ⟨.busError, 0x00⟩, phase := .bRelease } :=
  readRegister_fails failure ..

theorem bReadId_phase (s : State) : (bReadId s).phase = .bRelease :=
  readRegister_keeps (fun t => t.phase = .bRelease) _ _ _ _
    (fun b _ => by rw [idAnswered]; split <;> rfl) fun _ => rfl

theorem bRelease_ready (ready : s.ident = .ready) :
    bRelease s = { s with trace := s.trace ++ [.pin 1, .ident .ready], cs := 1, phase := .idle } := by
  rw [bRelease]
  split
  · simp [goto, emit, pinWrite]
  · contradiction

theorem bRelease_failed (notReady : s.ident ≠ .ready) : bRelease s =
    { s with trace := s.trace ++ [.pin 1, .ident (.failed s.bootErr)], cs := 1, phase := .dead } := by
  rw [bRelease]
  split
  · contradiction
  · simp [goto, emit, pinWrite]

end Effects

/-- Settles O39: `RREG.ID` is the step `B_READ_ID`, by the answer to its read. -/
theorem readIdStepJudgesChip : Obligations.ReadIdStepJudgesChip := by
  refine ⟨fun s at_ => by rw [step, phaseStep, at_], fun s alive => ?_, by decide, by decide, by decide, by decide⟩
  rw [exec, execRregId, perform_alive _ s alive]
  exact ⟨fun b answer => ⟨fun good => congrArg _ (bReadId_recognised answer good),
      fun bad => congrArg _ (bReadId_unrecognised answer bad)⟩,
    fun failure => congrArg _ (bReadId_fails failure)⟩

/-- Settles O41: the step of the phase, by whether `ident` is READY. -/
theorem bootReleaseSignals : Obligations.BootReleaseSignals := by
  intro s at_
  rw [step_of_bRelease at_]
  exact ⟨fun ready => congrArg _ (bRelease_ready ready), fun notReady => congrArg _ (bRelease_failed notReady)⟩

/-! ## Which steps lead into the check -/

namespace Transition

variable {s t : State}

theorem not_to_bSelect (h : Transition s t) : t.phase ≠ .bSelect := by
  cases h with
  | waiting at_ | stale _ at_ => simp [at_]
  | _ => nofun

/-- The phases of the check after `B_SELECT` are reached in their order only (R24). -/
theorem to_check (h : Transition s t) (reached : t.phase ∈ [Phase.bWait, .bReadId, .bRelease]) :
    s.phase ∈ [Phase.bSelect, .bWait, .bReadId] := by
  cases h with
  | bSelect at_ | bWait at_ | idGood _ at_ | idBad _ at_ | idFails at_ => simp [at_]
  | _ => simp_all

theorem to_dead (h : Transition s t) (reached : t.phase = .dead) : s.phase = .bRelease := by
  cases h with
  | bootFailed at_ => exact at_
  | _ => simp_all

/-- `set_pin_mode` is called by `B_SELECT` alone (R191). -/
theorem keeps_pinMode (h : Transition s t) (other : s.phase ≠ .bSelect) : t.pinMode = s.pinMode ∧
    t.trace.countP (· == .mode .output) = s.trace.countP (· == .mode .output) := by
  cases h with
  | bSelect at_ => exact absurd at_ other
  | _ => exact ⟨rfl, by simp⟩

end Transition

/-- Settles O44, from the transitions that lead to each phase. -/
theorem identityCheckRunsOnce : Obligations.IdentityCheckRunsOnce := by
  intro s t taken
  have move := step_transition s t taken
  exact ⟨move.not_to_bSelect, move.to_check, move.to_dead⟩

/-- Settles O40: the steps of the two phases, and the one transition that sets the pin mode. -/
theorem bootSelectAndWake : Obligations.BootSelectAndWake := by
  refine ⟨fun s at_ => ?_, fun s at_ => step_of_bWait at_, fun s t taken => ?_⟩
  · rw [step_of_bSelect at_, bSelect_eq]
  · have move := step_transition s t taken
    exact ⟨move.not_to_bSelect, move.keeps_pinMode⟩

/-! ## The check as a whole -/

/-- The state in which `IDENT` reads the ID register: the pin an output and asserted, the wake wait over (R191,
R192). -/
def identAwake (s : State) : State :=
  { s with
    trace := s.trace ++ [.mode .output, .pin 0, .wait 15], pinMode := .output, cs := 0, phase := .bReadId }

theorem bWait_bSelect (s : State) : bWait (bSelect s) = identAwake s := by
  simp [bSelect_eq, bWait_eq, identAwake]

theorem nextXferAnswer_identAwake (s : State) : nextXferAnswer (identAwake s) = nextXferAnswer s :=
  xferAnswerAt_congr _ _ 0 rfl rfl

theorem afterRead_identAwake (s : State) : afterRead 0x11 (identAwake s) =
    { afterRead 0x11 s with
      trace := s.trace ++ [.mode .output, .pin 0, .wait 15, .xfer 0x11 (nextXferAnswer s)]
      pinMode := .output, cs := 0, phase := .bReadId } := by
  rw [afterRead, nextXferAnswer_identAwake]
  simp [identAwake, afterRead]

theorem exec_ident {s : State} (alive : s.phase ≠ .dead) :
    exec .ident s = .next (bRelease (bReadId (identAwake s))) := by
  rw [exec, execIdent, perform_alive _ s alive, bWait_bSelect]

theorem run_check {s : State} (at_ : s.phase = .bSelect) : run 4 s = .next (bRelease (bReadId (identAwake s))) := by
  rw [run_succ (step_of_bSelect at_), run_succ (step_of_bWait rfl), bWait_bSelect, run_succ (step_of_bReadId rfl),
    run_succ (step_of_bRelease (bReadId_phase _))]
  rfl

/-- Settles O42: the read of the ID register by its answer, and what the release then signals. -/
theorem identBootTraces : Obligations.IdentBootTraces := by
  refine ⟨fun s at_ => by rw [run_check at_, exec_ident (by simp [at_])], fun s alive => ?_⟩
  have sameAnswer := nextXferAnswer_identAwake s
  rw [exec_ident alive]
  refine ⟨fun b answer good => ?_, fun b answer bad => ?_, fun failure => ?_⟩
  · rw [bReadId_recognised (sameAnswer.trans answer) good, bRelease_ready rfl, afterRead_identAwake]
    simp [afterRead, answer]
  · rw [bReadId_unrecognised (sameAnswer.trans answer) bad, bRelease_failed (by simp), afterRead_identAwake]
    simp [afterRead, answer]
  · rw [bReadId_fails (by rwa [sameAnswer]), bRelease_failed (by simp), afterRead_identAwake]
    simp [afterRead]

/-- Settles O43, from the end state of each of the three boot traces. -/
theorem identOnlyReads : Obligations.IdentOnlyReads := by
  intro s t ran
  have alive : s.phase ≠ .dead := fun dead => by simp [exec_of_dead dead] at ran
  obtain ⟨accepted, rejected, fails⟩ := identBootTraces.2 s alive
  cases answer : nextXferAnswer s with
  | data b =>
    by_cases good : b &&& 0xF0 = 0x50
    · cases (accepted b answer good).symm.trans ran
      exact ⟨rfl, rfl, rfl, rfl, _, rfl, rfl⟩
    · cases (rejected b answer good).symm.trans ran
      exact ⟨rfl, rfl, rfl, rfl, _, rfl, rfl⟩
  | err | noData =>
    cases (fails (by simp [answer])).symm.trans ran
    exact ⟨rfl, rfl, rfl, rfl, _, rfl, by rw [answer]; rfl⟩

end Sys2Proof.Machine
end

section
/-! PROOF. The four toggles: the option bit each one writes, its whole next state, and sequences of them
(spec/44_config_toggles.md rules R205 to R211). -/

namespace Sys2Proof.Machine

/-! ## The option bits -/

/-- The bit of `config_bits` a toggle writes: 1 for `HEAT`, 5 for `FAST`. -/
def optionBit : Bool → Nat
  | true => 1
  | false => 5

/-- The command words of the four toggles (R102). -/
def toggleWord : Bool × Bool → Byte
  | (true, true) => 0x31
  | (true, false) => 0x30
  | (false, true) => 0x41
  | (false, false) => 0x40

/-- `config_bits` after a toggle: an explicit set or clear of its bit, never a flip (R212). -/
def writeOption (p : Bool × Bool) (bits : Byte) : Byte :=
  if p.2 then bits ||| BitVec.twoPow 8 (optionBit p.1) else bits &&& ~~~BitVec.twoPow 8 (optionBit p.1)

/-- `config_bits` after a sequence of toggles. -/
def writeOptions (toggles : List (Bool × Bool)) (bits : Byte) : Byte :=
  toggles.foldl (fun bits p => writeOption p bits) bits

theorem optionBit_lt (heat : Bool) : optionBit heat < 8 := by
  cases heat <;> decide

theorem optionBit_inj {heat heat' : Bool} : optionBit heat = optionBit heat' ↔ heat = heat' := by
  cases heat <;> cases heat' <;> decide

theorem getLsbD_writeOption (p : Bool × Bool) (bits : Byte) (k : Nat) :
    (writeOption p bits).getLsbD k = if k = optionBit p.1 then p.2 else bits.getLsbD k := by
  obtain ⟨heat, on⟩ := p
  have inByte := optionBit_lt heat
  by_cases same : k = optionBit heat
  · cases on <;> simp [writeOption, same, inByte]
  · cases on
    · simpa [writeOption, same, Ne.symm same] using BitVec.lt_of_getLsbD
    · simp [writeOption, same, Ne.symm same]

/-- A toggle leaves its operand in its own bit and every other bit as it was. -/
theorem writeOption_writes_one_bit (p : Bool × Bool) (bits : Byte) :
    (writeOption p bits).getLsbD (optionBit p.1) = p.2 ∧
    ∀ k, k ≠ optionBit p.1 → (writeOption p bits).getLsbD k = bits.getLsbD k :=
  ⟨by rw [getLsbD_writeOption, if_pos rfl], fun k other => by rw [getLsbD_writeOption, if_neg other]⟩

/-- An option bit holds its last operand after a sequence of toggles. -/
theorem getLsbD_writeOptions (heat : Bool) (toggles : List (Bool × Bool)) (bits : Byte) :
    (writeOptions toggles bits).getLsbD (optionBit heat) =
      lastOperand heat toggles (bits.getLsbD (optionBit heat)) := by
  induction toggles generalizing bits with
  | nil => rfl
  | cons p rest ih =>
    calc (writeOptions rest (writeOption p bits)).getLsbD (optionBit heat)
      _ = lastOperand heat rest ((writeOption p bits).getLsbD (optionBit heat)) := ih _
      _ = lastOperand heat rest (if p.1 = heat then p.2 else bits.getLsbD (optionBit heat)) := by
        simp only [getLsbD_writeOption, optionBit_inj, eq_comm]

/-- A bit that belongs to no option stays as it was. -/
theorem getLsbD_writeOptions_of_ne {k : Nat} (other : ∀ heat, k ≠ optionBit heat) (toggles : List (Bool × Bool))
    (bits : Byte) : (writeOptions toggles bits).getLsbD k = bits.getLsbD k := by
  induction toggles generalizing bits with
  | nil => rfl
  | cons p rest ih => exact (ih _).trans ((writeOption_writes_one_bit p bits).2 k (other p.1))

/-! ## One toggle -/

/-- The state in which a toggle performed in `IDLE` has completed: its word accepted, its response made, `config_bits`
written, and nothing else changed (R209). -/
def acknowledged (w bits : Byte) (s : State) : State :=
  { s with configBits := bits, cmd := w, trace := s.trace ++ [.cmd w, .rsp 0 0 0x00], phase := .idle }

theorem perform_accept_toggle {s : State} (at_ : s.phase = .idle) (w : Byte) (write : Byte → Byte) :
    perform (accept w fun s => toggle (write s.configBits) s) s = .next (acknowledged w (write s.configBits) s) := by
  rw [perform_alive _ s (by simp [at_]), accept_idle w _ s at_]
  simp [acknowledged, toggle, goto, respond, emit, codeOk, noValue, noInfo]

theorem exec_toggleInstr {s : State} (at_ : s.phase = .idle) (p : Bool × Bool) :
    exec (toggleInstr p) s = .next (acknowledged (toggleWord p) (writeOption p s.configBits) s) :=
  match p with
  | (true, true) => perform_accept_toggle at_ 0x31 (· ||| 0x02)
  | (true, false) => perform_accept_toggle at_ 0x30 (· &&& 0xFD)
  | (false, true) => perform_accept_toggle at_ 0x41 (· ||| 0x20)
  | (false, false) => perform_accept_toggle at_ 0x40 (· &&& 0xDF)

theorem decode_toggleWord (p : Bool × Bool) : decode .cmd8 [toggleWord p] = .ok (toggleInstr p) := by
  obtain ⟨heat, on⟩ := p
  cases heat <;> cases on <;> decide

/-- Settles O15: `HEAT.ON` is the toggle of HEAT with operand 1. -/
theorem heatOnSetsHeatBit : Obligations.HeatOnSetsHeatBit :=
  ⟨decode_toggleWord (true, true), fun _ at_ => exec_toggleInstr at_ (true, true),
    writeOption_writes_one_bit (true, true), rfl⟩

/-- Settles O16: `HEAT.OFF` is the toggle of HEAT with operand 0. -/
theorem heatOffClearsHeatBit : Obligations.HeatOffClearsHeatBit :=
  ⟨decode_toggleWord (true, false), fun _ at_ => exec_toggleInstr at_ (true, false),
    writeOption_writes_one_bit (true, false), rfl, rfl⟩

/-- Settles O17: `FAST.ON` is the toggle of FAST with operand 1. -/
theorem fastOnSetsFastBit : Obligations.FastOnSetsFastBit :=
  ⟨decode_toggleWord (false, true), fun _ at_ => exec_toggleInstr at_ (false, true),
    writeOption_writes_one_bit (false, true), rfl⟩

/-- Settles O18: `FAST.OFF` is the toggle of FAST with operand 0. -/
theorem fastOffClearsFastBit : Obligations.FastOffClearsFastBit :=
  ⟨decode_toggleWord (false, false), fun _ at_ => exec_toggleInstr at_ (false, false),
    writeOption_writes_one_bit (false, false), rfl⟩

/-! ## Sequences of toggles -/

theorem execAll_cons {i : Instr} {s t : State} (ran : exec i s = .next t) (rest : List Instr) :
    execAll (i :: rest) s = execAll rest t := by
  rw [execAll, ran, execAll.andThenExec]

theorem acknowledged_busCount (w bits : Byte) (s : State) :
    (acknowledged w bits s).trace.countP Event.isBus = s.trace.countP Event.isBus := by
  simp [acknowledged, List.countP_append, Event.isBus]

/-- Toggles performed one after another from `IDLE` all complete there, without a pin event or a bus request (R209). -/
theorem execAll_toggles (toggles : List (Bool × Bool)) {s : State} (at_ : s.phase = .idle) :
    ∃ t, execAll (toggles.map toggleInstr) s = .next t ∧ t.phase = .idle ∧
      t.configBits = writeOptions toggles s.configBits ∧
      t.lastTemperature = s.lastTemperature ∧ t.cs = s.cs ∧
      t.trace.countP Event.isBus = s.trace.countP Event.isBus := by
  induction toggles generalizing s with
  | nil => exact ⟨s, rfl, at_, rfl, rfl, rfl, rfl⟩
  | cons p rest ih =>
    obtain ⟨t, ran, idle, bits, temperature, level, bus⟩ :=
      ih (s := acknowledged (toggleWord p) (writeOption p s.configBits) s) rfl
    exact ⟨t, (execAll_cons (exec_toggleInstr at_ p) _).trans ran, idle, bits, temperature, level,
      bus.trans (acknowledged_busCount _ _ s)⟩

/-- Settles O19, by induction on the sequence of toggles: over the states for the frame, over the bytes for the bits. -/
theorem toggleSequenceKeepsLastOperands : Obligations.ToggleSequenceKeepsLastOperands := by
  intro toggles s at_
  obtain ⟨t, ran, idle, bits, frame⟩ := execAll_toggles toggles at_
  refine ⟨t, ran, idle, ?_, ?_, fun k notHeat notFast => ?_, frame⟩
  · rw [bits]
    exact getLsbD_writeOptions true toggles s.configBits
  · rw [bits]
    exact getLsbD_writeOptions false toggles s.configBits
  · rw [bits]
    exact getLsbD_writeOptions_of_ne (Bool.forall_bool.mpr ⟨notFast, notHeat⟩) toggles s.configBits

end Sys2Proof.Machine
end

section
/-! PROOF. The host's commands: one response for each, what the command port does, and the measurement commands at their
acceptance and at their response (spec/45_host_commands.md rules R220 to R229). -/

namespace Sys2Proof.Machine

/-! ## One response per command, and the stored temperature -/

/-- Settles O52: every transition keeps commands and responses paired. -/
theorem stepKeepsResponsesPaired : Obligations.StepKeepsResponsesPaired :=
  fun s t paired taken => (step_transition s t taken).keeps_paired paired

/-- Settles O54: the latched request says which command the response of a step answers. -/
theorem stepKeepsStaleRule : Obligations.StepKeepsStaleRule :=
  fun s t control stale taken =>
    ⟨(step_transition s t taken).keeps_answered control.latched stale,
      (step_transition s t taken).keeps_lastCommand stale.2⟩

/-! ## The command port -/

/-- A command instruction accepts its word and does nothing else outside `IDLE` (R220, R221). -/
theorem exec_command {i : Instr} (command : i.format = .cmd8) :
    ∃ w dispatch, ∀ s, exec i s = perform (accept w dispatch) s := by
  cases i with
  | rdtC | rdtF | rdh | heatOff | heatOn | fastOff | fastOn => exact ⟨_, _, fun _ => rfl⟩
  | _ => cases command

theorem exec_command_holds {i : Instr} (command : i.format = .cmd8) {s : State} (busy : s.phase ≠ .idle)
    (alive : s.phase ≠ .dead) : exec i s = .next s := by
  obtain ⟨w, dispatch, accepts⟩ := exec_command command
  rw [accepts, perform_alive _ s alive, accept_hold w dispatch s busy]

/-- Outside `IDLE` no transition takes a word from the port or accepts one (R220). -/
theorem Transition.keeps_port {s t : State} (h : Transition s t) (busy : s.phase ≠ .idle) :
    t.port = s.port ∧ t.cmd = s.cmd ∧ t.trace.countP Event.isCmd = s.trace.countP Event.isCmd := by
  cases h with
  | waiting at_ | rdtC _ at_ | rdtF _ at_ | rdh _ _ at_ | stale _ at_ | heatOff _ at_ | heatOn _ at_ | fastOff _ at_
  | fastOn _ at_ => exact absurd at_ busy
  | _ => exact ⟨rfl, rfl, by simp [List.countP_append, Event.isCmd]⟩

theorem step_waits {s : State} (at_ : s.phase = .idle) (offered : s.port = []) : step s = .next s := by
  simp [step, phaseStep, at_, idleStep, offered]

/-- Settles O20: at the instruction `accept` holds, at the step only the transitions of `IDLE` touch the port. -/
theorem commandPortHolds : Obligations.CommandPortHolds :=
  ⟨fun _ _ command => exec_command_holds command, fun s t taken => (step_transition s t taken).keeps_port,
    fun _ => step_waits⟩

/-! ## Acceptance -/

section Acceptance

variable {s : State} (at_ : s.phase = .idle)
include at_

theorem exec_rdtC : exec .rdtC s = .next
    { s with
      trace := s.trace ++ [.cmd 0x10], cmd := 0x10, cycle := .temperature, unit := .celsius, phase := .mSelect } := by
  rw [exec, execRdtC, perform_alive _ s (by simp [at_]), accept_idle _ _ s at_]
  rfl

theorem exec_rdtF : exec .rdtF s = .next
    { s with
      trace := s.trace ++ [.cmd 0x11], cmd := 0x11, cycle := .temperature, unit := .fahrenheit, phase := .mSelect } := by
  rw [exec, execRdtF, perform_alive _ s (by simp [at_]), accept_idle _ _ s at_]
  rfl

theorem exec_rdh_stored {t : Binary64} (stored : s.lastTemperature = some t) : exec .rdh s = .next
    { s with trace := s.trace ++ [.cmd 0x20], cmd := 0x20, cycle := .humidity, phase := .mSelect } := by
  rw [exec, execRdh, perform_alive _ s (by simp [at_]), accept_idle _ _ s at_]
  simp [stored, goto, emit, wordRdh]

theorem exec_rdh_stale (stored : s.lastTemperature = none) : exec .rdh s = .next
    { s with trace := s.trace ++ [.cmd 0x20, .rsp 4 0 0x00], cmd := 0x20 } := by
  rw [exec, execRdh, perform_alive _ s (by simp [at_]), accept_idle _ _ s at_]
  simp [stored, raiseIn_dispatch, emit, wordRdh, ErrCode.code, ← at_]

end Acceptance

/-- Settles O13: both commands accepted in `IDLE`, written out. -/
theorem rdtStartsTemperatureCycle : Obligations.RdtStartsTemperatureCycle :=
  fun _ at_ => ⟨exec_rdtC at_, exec_rdtF at_⟩

/-- Settles O14, by whether a temperature is stored. -/
theorem rdhChecksStoredTemperature : Obligations.RdhChecksStoredTemperature :=
  fun _ at_ => ⟨fun _ => exec_rdh_stored at_, exec_rdh_stale at_⟩

/-! ## The response -/

section Response

variable {s : State} (at_ : s.phase = .mCompute)
include at_

/-- With `result` written and control still at `M_COMPUTE`, the step responds (R224, R225). -/
theorem step_responds {i : Instr} {t : State} (operation : computation s = i) (computed : exec i s = .next t)
    (stays : t.phase = .mCompute) :
    step s = .next { t with trace := t.trace ++ [.rsp 0 t.result 0x00], phase := .idle } := by
  have compute : step s = computeStep s := by rw [step, phaseStep, at_]
  rw [compute, computeStep, operation, computed, andThen, respondResult, inPhase_at _ _ t stays]
  rfl

theorem step_computes_temperature (kind : s.cycle = .temperature) : step s = .next
    { s with
      lastTemperature := some (celsius s.raw16)
      result := temperatureValue s.raw16 s.unit
      trace := s.trace ++ [.rsp 0 (temperatureValue s.raw16 s.unit) 0x00]
      phase := .idle } :=
  step_responds at_ (by rw [computation, kind]) (exec_ctemp (by simp [at_]) s.raw16 s.unit) at_

theorem step_computes_humidity (kind : s.cycle = .humidity) {t : Binary64} (stored : s.lastTemperature = some t) :
    step s = .next
      { s with
        result := humidity s.raw16 t
        trace := s.trace ++ [.rsp 0 (humidity s.raw16 t) 0x00]
        phase := .idle } :=
  step_responds at_ (by rw [computation, kind]) (exec_chum_stored (by simp [at_]) stored s.raw16) at_

end Response

/-- Settles O11, by the kind of the cycle. -/
theorem computeStepResponds : Obligations.ComputeStepResponds :=
  fun _ at_ => ⟨step_computes_temperature at_, fun kind _ => step_computes_humidity at_ kind⟩

end Sys2Proof.Machine
end

section
/-! PROOF. Whole measurement commands: the response that is always reached, and the two successful commands from the port
to their response (spec/45_host_commands.md rules R220 to R228, spec/60_exceptions.md rule R253). -/

namespace Sys2Proof.Machine

/-! ## A command in progress responds -/

/-- At most so many steps are left before a measurement command has responded: one for each phase still ahead, and one
for each STATUS read the limit still allows (R24, R126). -/
def stepsLeft (s : State) : Nat :=
  match s.phase with
  | .mSelect => s.pollLimit + 8
  | .mWait => s.pollLimit + 7
  | .mConfig => s.pollLimit + 6
  | .mPoll => s.pollLimit - s.pollCnt + 5
  | .mLatch => 5
  | .mReadHi => 4
  | .mReadLo => 3
  | .mRelease => 2
  | .mCompute | .mAbort => 1
  | .bSelect | .bWait | .bReadId | .bRelease | .dead | .idle => 0

theorem stepsLeft_le (s : State) : stepsLeft s ≤ s.pollLimit + 8 := by
  unfold stepsLeft
  split <;> omega

theorem stepsLeft_pos {s : State} (cycling : s.phase.inCycle = true) : 0 < stepsLeft s := by
  unfold stepsLeft
  split <;> simp_all [Phase.inCycle]

/-- What a measurement command leaves alone whatever comes of it (R253, R220). -/
structure SameSettings (s t : State) : Prop where
  port : t.port = s.port
  configBits : t.configBits = s.configBits
  ident : t.ident = s.ident

theorem SameSettings.trans {s t u : State} (first : SameSettings s t) (second : SameSettings t u) :
    SameSettings s u :=
  ⟨second.port.trans first.port, second.configBits.trans first.configBits, second.ident.trans first.ident⟩

/-- From `s` to `t` the block has neither responded nor accepted a command. -/
structure Unanswered (s t : State) (events : List Event) : Prop extends SameSettings s t where
  grown : t.trace = s.trace ++ events
  noRsp : events.countP Event.isRsp = 0
  noCmd : events.countP Event.isCmd = 0
  lastTemperature : t.lastTemperature = s.lastTemperature

/-- From `s` to `t` the command in progress has been answered, once, and the block is idle again (R228, R253). -/
structure Answered (s t : State) (events : List Event) (code : RspCode) (value : Binary64) : Prop
    extends SameSettings s t where
  idle : t.phase = .idle
  grown : t.trace = s.trace ++ events ++ [.rsp code value 0x00]
  noRsp : events.countP Event.isRsp = 0
  noCmd : events.countP Event.isCmd = 0
  codes : code = 0 ∨ code = 1 ∨ code = 2
  failure : code ≠ 0 → t.lastTemperature = s.lastTemperature

/-- Events before the answer put off nothing but the answer. -/
theorem Unanswered.answered {s t u : State} {before events : List Event} {code : RspCode} {value : Binary64}
    (quiet : Unanswered s t before) (answer : Answered t u events code value) :
    Answered s u (before ++ events) code value where
  toSameSettings := quiet.toSameSettings.trans answer.toSameSettings
  idle := answer.idle
  grown := by rw [answer.grown, quiet.grown, List.append_assoc s.trace]
  noRsp := by rw [List.countP_append, quiet.noRsp, answer.noRsp]
  noCmd := by rw [List.countP_append, quiet.noCmd, answer.noCmd]
  codes := answer.codes
  failure := fun failed => (answer.failure failed).trans quiet.lastTemperature

/-- A step during a measurement command responds, or goes on with fewer steps left (R126, R149, R250). -/
theorem Transition.answers_or_continues {s t : State} (h : Transition s t) (control : ControlInv s)
    (cycling : s.phase.inCycle = true) :
    (∃ events code value, Answered s t events code value) ∨
    (t.phase.inCycle = true ∧ stepsLeft t < stepsLeft s ∧ ∃ events, Unanswered s t events) := by
  cases h with
  | temperature =>
    exact .inl ⟨[], 0, temperatureValue s.raw16 s.unit, ⟨rfl, rfl, rfl⟩, rfl, by simp, rfl, rfl, .inl rfl,
      fun failed => absurd rfl failed⟩
  | humidity v =>
    exact .inl ⟨[], 0, Machine.humidity s.raw16 v, ⟨rfl, rfl, rfl⟩, rfl, by simp, rfl, rfl, .inl rfl, fun _ => rfl⟩
  | mAbort at_ =>
    refine .inl ⟨[.pin 1], s.err.code.code, 0, ⟨rfl, rfl, rfl⟩, rfl, by simp, rfl, rfl, .inr ?_, fun _ => rfl⟩
    rcases control.error at_ with error | error <;> simp [error, ErrCode.code]
  | noTemperature at_ kind stored => exact absurd stored (latched_humidity (control.latched cycling) kind)
  | pollReady b at_ | pollTimeout b at_ | pollAgain b at_ | pollFails at_ =>
    have below := control.count.2 at_
    exact .inr ⟨rfl, by simp only [stepsLeft, at_, busRead_pollLimit]; omega, _, ⟨rfl, rfl, rfl⟩, rfl, rfl, rfl, rfl⟩
  | mSelect at_ | mWait at_ | config at_ | configFails at_ | latch at_ | latchFails at_ | readHi b at_
  | readHiFails at_ | readLo b at_ | readLoFails at_ | mRelease at_ =>
    exact .inr ⟨rfl, by simp [stepsLeft, at_], _, ⟨rfl, rfl, rfl⟩, rfl, rfl, rfl, rfl⟩
  | _ => simp_all [Phase.inCycle]

/-- The block never stops during a measurement command (R228). -/
theorem step_of_inCycle {s : State} (cycling : s.phase.inCycle = true) : ∃ t, step s = .next t := by
  rcases step_or_stop s with taken | dead | ⟨idle, -⟩
  · exact taken
  · simp [dead, Phase.inCycle] at cycling
  · simp [idle, Phase.inCycle] at cycling

/-- The induction over the steps that are left. -/
theorem run_answers {n : Nat} {s : State} (control : ControlInv s) (cycling : s.phase.inCycle = true)
    (left : stepsLeft s ≤ n) :
    ∃ k ≤ n, ∃ t, run k s = .next t ∧ ControlInv t ∧ ∃ events code value, Answered s t events code value := by
  induction n generalizing s with
  | zero => exact absurd (stepsLeft_pos cycling) (by omega)
  | succ n ih =>
    obtain ⟨t, taken⟩ := step_of_inCycle cycling
    have kept := step_keeps_controlInv control taken
    rcases (step_transition s t taken).answers_or_continues control cycling with answer | ⟨going, fewer, before, quiet⟩
    · exact ⟨1, by omega, t, run_succ taken 0, kept, answer⟩
    · obtain ⟨k, few, u, ran, control', events, code, value, answer⟩ := ih kept going (by omega)
      exact ⟨k + 1, by omega, u, (run_succ taken k).trans ran, control', before ++ events, code, value,
        quiet.answered answer⟩

/-- Settles O57: the answer reached with the steps that are left, and the pin where the control invariant has it. -/
theorem commandInProgressResponds : Obligations.CommandInProgressResponds := by
  intro s control cycling
  obtain ⟨n, few, t, ran, control', events, code, value, answer⟩ := run_answers control cycling (stepsLeft_le s)
  have released : t.cs = 1 := by rw [control'.level, answer.idle]; rfl
  exact ⟨n, t, events, code, value, few, ran, answer.idle, released, answer.grown, answer.noRsp, answer.noCmd,
    answer.port, answer.codes, answer.configBits, answer.ident, answer.failure⟩

/-! ## A successful command -/

theorem run_trans {m : Nat} {s t : State} (first : run m s = .next t) (n : Nat) : run (n + m) s = run n t := by
  induction m generalizing s with
  | zero => cases first; rfl
  | succ m ih =>
    cases taken : step s with
    | next u =>
      rw [run_succ taken] at first
      rw [← Nat.add_assoc, run_succ taken, ih first]
    | fault r => simp [run, Host.Core.run, core, taken] at first
    | refused r => simp [run, Host.Core.run, core, taken] at first

/-- The state in which a measurement command has been taken from the port and its request latched (R221). -/
abbrev requested (w : Byte) (rest : List Byte) (c : CycleKind) (u : TempUnit) (s : State) : State :=
  { taken w rest s with cycle := c, unit := u, phase := .mSelect }

/-- The command word that asks for a temperature in a unit (R102). -/
def rdtWord : TempUnit → Byte
  | .celsius => wordRdtC
  | .fahrenheit => wordRdtF

/-- The command word of `RDT.C` or `RDT.F` accepted at the port (R221, R222, R226). -/
theorem step_accepts_rdt (u : TempUnit) {s : State} {rest : List Byte} (at_ : s.phase = .idle)
    (offered : s.port = rdtWord u :: rest) : step s = .next (requested (rdtWord u) rest .temperature u s) := by
  cases u with
  | celsius => exact (step_idle at_ offered rfl).trans (exec_rdtC at_)
  | fahrenheit => exact (step_idle at_ offered rfl).trans (exec_rdtF at_)

/-- The command word of `RDH` accepted at the port with a temperature stored (R221, R223). -/
theorem step_accepts_rdh {s : State} {rest : List Byte} {t : Binary64} (at_ : s.phase = .idle)
    (offered : s.port = 0x20 :: rest) (stored : s.lastTemperature = some t) :
    step s = .next (requested 0x20 rest .humidity s.unit s) :=
  (step_idle at_ offered rfl).trans (exec_rdh_stored at_ stored)

/-- The state `M_COMPUTE` begins with after a successful cycle of an accepted command (R150). -/
def sampled (busy : List Byte) (ready hi lo : Byte) (s : State) : State :=
  { s with
    cs := 1
    pollCnt := busy.length + 1
    statusByte := ready
    hi := hi
    lo := lo
    raw16 := BitVec.ofNat 16 (256 * hi.toNat + lo.toNat)
    trace := s.trace ++ cycleTrace (configByte s.cycle s.configBits) busy ready hi lo
    phase := .mCompute
    xferAnswers := s.xferAnswers.drop (busy.length + 3)
    sendAnswers := s.sendAnswers.drop 2
    readCount := s.readCount + (busy.length + 3)
    writeCount := s.writeCount + 2 }

/-- The sequencer's steps through a successful cycle (R24, R150). -/
theorem run_goodCycle {s : State} {busy : List Byte} {ready hi lo : Byte} (at_ : s.phase = .mSelect)
    (good : GoodCycle s busy ready hi lo) : ∃ n, run n s = .next (sampled busy ready hi lo s) := by
  obtain ⟨n, -, refines⟩ := sequencerRefinesMeasure s at_ (Nat.one_le_of_lt good.within)
  exact ⟨n, refines.trans (successfulCycle s.cycle s busy ready hi lo (by simp [at_]) good)⟩

/-- From the port to the response: the step that accepts the word, the steps of the cycle, the step that responds. -/
theorem run_command {s t : State} {w : Byte} {rest : List Byte} {c : CycleKind} {u : TempUnit} {busy : List Byte}
    {ready hi lo : Byte} (accepted : step s = .next (requested w rest c u s)) (good : GoodCycle s busy ready hi lo)
    (responded : step (sampled busy ready hi lo (requested w rest c u s)) = .next t) : ∃ n, run n s = .next t := by
  have stillGood : GoodCycle (requested w rest c u s) busy ready hi lo := { good with }
  obtain ⟨n, cycled⟩ := run_goodCycle rfl stillGood
  refine ⟨1 + n + 1, ?_⟩
  rw [run_succ accepted, run_trans cycled]
  exact run_succ responded 0

/-- Settles O58: acceptance, a good cycle, and `M_COMPUTE` after a temperature cycle. -/
theorem temperatureCommandEndToEnd : Obligations.TemperatureCommandEndToEnd := by
  intro u w s rest busy ready hi lo word at_ offered good
  obtain rfl : w = rdtWord u := by cases u <;> exact word
  obtain ⟨n, ran⟩ := run_command (step_accepts_rdt u at_ offered) good (step_computes_temperature rfl rfl)
  exact ⟨n, _, ran, rfl, rfl, rfl, rfl, rfl, rfl⟩

/-- Settles O59: acceptance, a good cycle, and `M_COMPUTE` after a humidity cycle at the stored temperature. -/
theorem humidityCommandEndToEnd : Obligations.HumidityCommandEndToEnd := by
  intro t s rest busy ready hi lo stored at_ offered good
  obtain ⟨n, ran⟩ := run_command (step_accepts_rdh at_ offered stored) good (step_computes_humidity rfl rfl stored)
  exact ⟨n, _, ran, rfl, rfl, rfl, stored, rfl, rfl⟩

end Sys2Proof.Machine
end

section
/-! PROOF. The step that ends a failed cycle: the pin is released, then the error reported (spec/60_exceptions.md rule
R250). -/

namespace Sys2Proof.Machine

/-- The two events in their order, as one record update. -/
theorem mAbort_eq (s : State) : mAbort s =
    { s with trace := s.trace ++ [.pin 1, .rsp s.err.code.code 0 0x00], cs := 1, phase := .idle } := by
  simp [mAbort, goto, respond, pinWrite, emit, noValue, noInfo]

/-- Settles O29: the step of the phase, written out, and the codes of the two errors a transaction can raise. -/
theorem abortStepReleasesThenReports : Obligations.AbortStepReleasesThenReports := by
  intro s at_
  refine ⟨mAbort s, step_of_mAbort at_, mAbort_eq s, ?_, ?_⟩
  · intro busError
    rw [busError, ErrCode.code]
  · intro timeoutError
    rw [timeoutError, ErrCode.code]

end Sys2Proof.Machine
end
